-- ==== Sys2Proof/Word.lean ====
section
/-! DEFINITION. The words the host exchanges with the block (20_memory.md R59, 30_encoding.md R70). -/

namespace Sys2Proof

/-- A data byte (20_memory.md R59). -/
abbrev Byte := BitVec 8

/-- A bus address (20_memory.md R59). -/
abbrev Addr := BitVec 16

/-- A transaction word (30_encoding.md R70). -/
abbrev TWord := BitVec 26

/-- A 4-bit audio level: a channel output or a mixed sample (40_coordinator.md R117). -/
abbrev Level := BitVec 4

end Sys2Proof
end

