-- ==== Sys2Proof/Syntax.lean ====
section
/-! DEFINITION. The block's operations: one constructor per row of spec/opcode_table.json
(30_encoding.md R90), with the operands of R93. -/

namespace Sys2Proof

/-- An operation of the block. A data byte `v` is kept whole: the bits a register ignores are still
the operand's (30_encoding.md R76). -/
inductive Instr where
  /-- `ADV` (40_coordinator.md R100). -/
  | adv
  /-- `WR_P1_CTRL`, 0x4000 (41_pulse.md R144). -/
  | wrP1Ctrl (v : Byte)
  /-- `WR_P1_SWEEP`, 0x4001 (41_pulse.md R146). -/
  | wrP1Sweep (v : Byte)
  /-- `WR_P1_TLO`, 0x4002 (41_pulse.md R148). -/
  | wrP1Tlo (v : Byte)
  /-- `WR_P1_THI`, 0x4003 (41_pulse.md R150). -/
  | wrP1Thi (v : Byte)
  /-- `WR_P2_CTRL`, 0x4004 (41_pulse.md R145). -/
  | wrP2Ctrl (v : Byte)
  /-- `WR_P2_SWEEP`, 0x4005 (41_pulse.md R147). -/
  | wrP2Sweep (v : Byte)
  /-- `WR_P2_TLO`, 0x4006 (41_pulse.md R149). -/
  | wrP2Tlo (v : Byte)
  /-- `WR_P2_THI`, 0x4007 (41_pulse.md R151). -/
  | wrP2Thi (v : Byte)
  /-- `WR_TRI_CTRL`, 0x4008 (42_triangle.md R192). -/
  | wrTriCtrl (v : Byte)
  /-- `WR_TRI_TLO`, 0x400A (42_triangle.md R193). -/
  | wrTriTlo (v : Byte)
  /-- `WR_TRI_THI`, 0x400B (42_triangle.md R194). -/
  | wrTriThi (v : Byte)
  /-- `WR_APU_ENABLE`, 0x4015 (40_coordinator.md R108). -/
  | wrApuEnable (v : Byte)
  /-- `WR_FRAME_CTRL`, 0x4017 (40_coordinator.md R109). -/
  | wrFrameCtrl (v : Byte)
  /-- `WR_UNMAPPED`, any address with no register (40_coordinator.md R121). -/
  | wrUnmapped (addr : Addr) (v : Byte)
  /-- `RD_STATUS`, 0x4015 (40_coordinator.md R119). -/
  | rdStatus
  /-- `RD_OTHER`, any other address (40_coordinator.md R120). -/
  | rdOther (addr : Addr)
  /-- `RST` (40_coordinator.md R122). -/
  | rst
  deriving DecidableEq, Repr

/-- Why a transaction word spells no operation: which reserved field is not zero (30_encoding.md R72). -/
inductive IllegalWord where
  /-- An `ADV` word with a non-zero `addr` or `data`. -/
  | advReservedNonzero
  /-- An `RST` word with a non-zero `addr` or `data`. -/
  | rstReservedNonzero
  /-- An `RD` word with a non-zero `data` (R91). -/
  | rdReservedNonzero
  deriving DecidableEq, Repr

end Sys2Proof
end

