-- ==== Sys2Proof/WellFormed.lean ====
section
/-! DEFINITION. Which terms of `Instr` stand for a transaction word: an unmapped write names an address
with no register, an other-read an address that is not the status register's (30_encoding.md R73). -/

namespace Sys2Proof

/-- The addresses that are write targets (20_memory.md R60). -/
def mappedWriteAddrs : List Addr :=
  [0x4000#16, 0x4001#16, 0x4002#16, 0x4003#16, 0x4004#16, 0x4005#16, 0x4006#16, 0x4007#16,
   0x4008#16, 0x400A#16, 0x400B#16, 0x4015#16, 0x4017#16]

/-- The address of the status read (20_memory.md R60). -/
def statusAddr : Addr := 0x4015#16

/-- A term of `Instr` that some transaction word decodes to. -/
def Instr.wf : Instr → Bool
  | .adv => true
  | .wrP1Ctrl _ => true
  | .wrP1Sweep _ => true
  | .wrP1Tlo _ => true
  | .wrP1Thi _ => true
  | .wrP2Ctrl _ => true
  | .wrP2Sweep _ => true
  | .wrP2Tlo _ => true
  | .wrP2Thi _ => true
  | .wrTriCtrl _ => true
  | .wrTriTlo _ => true
  | .wrTriThi _ => true
  | .wrApuEnable _ => true
  | .wrFrameCtrl _ => true
  | .wrUnmapped addr _ => !mappedWriteAddrs.contains addr
  | .rdStatus => true
  | .rdOther addr => addr != statusAddr
  | .rst => true

end Sys2Proof
end

