-- ==== Sys2Proof/Decode.lean ====
section
/-! DEFINITION. The transaction word, read and written (30_encoding.md section 1 and R90). -/

namespace Sys2Proof

/-- Field `op`, bits 25:24 (30_encoding.md R70). -/
def opField (w : TWord) : BitVec 2 := w.extractLsb' 24 2

/-- Field `addr`, bits 23:8 (30_encoding.md R70). -/
def addrField (w : TWord) : Addr := w.extractLsb' 8 16

/-- Field `data`, bits 7:0 (30_encoding.md R70). -/
def dataField (w : TWord) : Byte := w.extractLsb' 0 8

/-- A `WR` word's operation: an exact match of the address, and `WR_UNMAPPED` where none matches
(30_encoding.md R73, 20_memory.md R61). -/
def decodeWrite (addr : Addr) (v : Byte) : Instr :=
  if addr = 0x4000#16 then .wrP1Ctrl v
  else if addr = 0x4001#16 then .wrP1Sweep v
  else if addr = 0x4002#16 then .wrP1Tlo v
  else if addr = 0x4003#16 then .wrP1Thi v
  else if addr = 0x4004#16 then .wrP2Ctrl v
  else if addr = 0x4005#16 then .wrP2Sweep v
  else if addr = 0x4006#16 then .wrP2Tlo v
  else if addr = 0x4007#16 then .wrP2Thi v
  else if addr = 0x4008#16 then .wrTriCtrl v
  else if addr = 0x400A#16 then .wrTriTlo v
  else if addr = 0x400B#16 then .wrTriThi v
  else if addr = 0x4015#16 then .wrApuEnable v
  else if addr = 0x4017#16 then .wrFrameCtrl v
  else .wrUnmapped addr v

/-- An `RD` word's operation (30_encoding.md R73). -/
def decodeRead (addr : Addr) : Instr :=
  if addr = statusAddr then .rdStatus else .rdOther addr

/-- The operation a transaction word spells, or why it spells none (30_encoding.md R71 to R73). -/
def decode (w : TWord) : Except IllegalWord Instr :=
  if opField w = 0b00#2 then
    if addrField w = 0#16 ∧ dataField w = 0#8 then .ok .adv else .error .advReservedNonzero
  else if opField w = 0b01#2 then
    .ok (decodeWrite (addrField w) (dataField w))
  else if opField w = 0b10#2 then
    if dataField w = 0#8 then .ok (decodeRead (addrField w)) else .error .rdReservedNonzero
  else
    if addrField w = 0#16 ∧ dataField w = 0#8 then .ok .rst else .error .rstReservedNonzero

/-- The word with the three fields in their places (30_encoding.md R70). -/
def transaction (op : BitVec 2) (addr : Addr) (data : Byte) : TWord := op ++ addr ++ data

/-- The word of an operation, from the columns `op`, `addr` and `data` of 30_encoding.md R90. -/
def encode : Instr → TWord
  | .adv => transaction 0b00 0x0000 0x00
  | .wrP1Ctrl v => transaction 0b01 0x4000 v
  | .wrP1Sweep v => transaction 0b01 0x4001 v
  | .wrP1Tlo v => transaction 0b01 0x4002 v
  | .wrP1Thi v => transaction 0b01 0x4003 v
  | .wrP2Ctrl v => transaction 0b01 0x4004 v
  | .wrP2Sweep v => transaction 0b01 0x4005 v
  | .wrP2Tlo v => transaction 0b01 0x4006 v
  | .wrP2Thi v => transaction 0b01 0x4007 v
  | .wrTriCtrl v => transaction 0b01 0x4008 v
  | .wrTriTlo v => transaction 0b01 0x400A v
  | .wrTriThi v => transaction 0b01 0x400B v
  | .wrApuEnable v => transaction 0b01 0x4015 v
  | .wrFrameCtrl v => transaction 0b01 0x4017 v
  | .wrUnmapped addr v => transaction 0b01 addr v
  | .rdStatus => transaction 0b10 0x4015 0x00
  | .rdOther addr => transaction 0b10 addr 0x00
  | .rst => transaction 0b11 0x0000 0x00

/-- Column `match` of an operation's row (30_encoding.md R90). -/
def rowMatch : Instr → TWord
  | .adv => 0x0000000
  | .wrP1Ctrl _ => 0x1400000
  | .wrP1Sweep _ => 0x1400100
  | .wrP1Tlo _ => 0x1400200
  | .wrP1Thi _ => 0x1400300
  | .wrP2Ctrl _ => 0x1400400
  | .wrP2Sweep _ => 0x1400500
  | .wrP2Tlo _ => 0x1400600
  | .wrP2Thi _ => 0x1400700
  | .wrTriCtrl _ => 0x1400800
  | .wrTriTlo _ => 0x1400A00
  | .wrTriThi _ => 0x1400B00
  | .wrApuEnable _ => 0x1401500
  | .wrFrameCtrl _ => 0x1401700
  | .wrUnmapped _ _ => 0x1000000
  | .rdStatus => 0x2401500
  | .rdOther _ => 0x2000000
  | .rst => 0x3000000

/-- Column `mask` of an operation's row (30_encoding.md R90). -/
def rowMask : Instr → TWord
  | .adv => 0x3FFFFFF
  | .wrP1Ctrl _ => 0x3FFFF00
  | .wrP1Sweep _ => 0x3FFFF00
  | .wrP1Tlo _ => 0x3FFFF00
  | .wrP1Thi _ => 0x3FFFF00
  | .wrP2Ctrl _ => 0x3FFFF00
  | .wrP2Sweep _ => 0x3FFFF00
  | .wrP2Tlo _ => 0x3FFFF00
  | .wrP2Thi _ => 0x3FFFF00
  | .wrTriCtrl _ => 0x3FFFF00
  | .wrTriTlo _ => 0x3FFFF00
  | .wrTriThi _ => 0x3FFFF00
  | .wrApuEnable _ => 0x3FFFF00
  | .wrFrameCtrl _ => 0x3FFFF00
  | .wrUnmapped _ _ => 0x3000000
  | .rdStatus => 0x3FFFFFF
  | .rdOther _ => 0x30000FF
  | .rst => 0x3FFFFFF

/-- The word a number stands for, if it fits the 26 bits of a word: the opcode table's rows are counted
in whole bytes, so a row comes as 32 bits with the six above bit 25 zero (log 14). -/
def wordOfNat (w : Nat) : Option TWord :=
  if w < 2 ^ 26 then some (BitVec.ofNat 26 w) else none

/-- What `decode` reads from a number of `nbits` bits numbered as spec/opcode_table.json numbers them. -/
def decodeTableWord (nbits w : Nat) : Option Instr :=
  match wordOfNat (w % 2 ^ nbits) with
  | none => none
  | some word =>
    match decode word with
    | .ok i => some i
    | .error _ => none

end Sys2Proof
end

