-- ==== Sys2Proof/Config.lean ====
section
/-! DEFINITION. The implementation's parameters (00_scope.md section 3, 10_state.md R18). The model takes
them as an argument that stands in State (log 1); their defaults are in Machine/Defaults.lean. -/

namespace Sys2Proof

/-- A rational number of master cycles, `num / den`. -/
structure Ratio where
  num : Nat
  den : Nat
  deriving DecidableEq, Repr

/-- A period is a positive rational at least 1 (00_scope.md R11). -/
abbrev Ratio.AtLeastOne (p : Ratio) : Prop := 0 < p.den ∧ p.den ≤ p.num

/-- The parameters of the block (00_scope.md section 3). -/
structure Config where
  /-- `PERIOD_W`: the width of each timer period and timer counter. -/
  periodW : Nat
  /-- `FRAME_PERIOD`: master cycles per frame clock. -/
  framePeriod : Ratio
  /-- `SAMPLE_PERIOD`: master cycles per mixed sample. -/
  samplePeriod : Ratio
  /-- `LENGTH_TABLE` (41_pulse.md R142). -/
  lengthTable : Vector Byte 32
  /-- `DUTY_TABLE`, row by row; `true` is an entry of 1 (41_pulse.md R143). -/
  dutyTable : Vector (Vector Bool 8) 4
  /-- `RESET_ENABLE_MASK` (70_reset_and_hazards.md R241). -/
  resetEnableMask : BitVec 3
  deriving DecidableEq, Repr

/-- A configuration the spec admits: both periods at least 1 (00_scope.md R11); the length-table entries the
source fixes, and every entry in 0 to 254 (41_pulse.md R142); a timer width above 11 bits (90_conflicts.md C1,
92_eei_decisions.md D4: DEDUCED, log 7). Any duty table and any enable mask is admitted. -/
abbrev Config.Legal (c : Config) : Prop :=
  c.framePeriod.AtLeastOne ∧ c.samplePeriod.AtLeastOne ∧ 12 ≤ c.periodW ∧
  c.lengthTable[0] = 10#8 ∧ c.lengthTable[1] = 254#8 ∧ c.lengthTable[31] = 30#8 ∧
  ∀ k : Fin 32, (c.lengthTable.get k).toNat ≤ 254

end Sys2Proof
end

