-- ==== Sys2Proof/Machine/Block.lean ====
section
/-! DEFINITION. The block's own state, exactly the fields of 10_state.md R22 to R54, and its value after
reset (70_reset_and_hazards.md R240). -/

namespace Sys2Proof.Machine

/-- The values of `A.frame_mode`: 0 is 4-step, 1 is 5-step (10_state.md R23). -/
inductive FrameMode where
  | fourStep
  | fiveStep
  deriving DecidableEq, Repr

/-- The coordinator, `A` (10_state.md section 2). -/
structure Coordinator where
  /-- R22, unbounded. -/
  cycle : Nat
  /-- R23. -/
  frameMode : FrameMode
  /-- R24, legal values 0 to 4. -/
  frameStep : BitVec 3
  /-- R25. -/
  irqEnabled : Bool
  /-- R26. -/
  enP1 : Bool
  /-- R26. -/
  enP2 : Bool
  /-- R26. -/
  enTri : Bool
  deriving DecidableEq, Repr

/-- A pulse channel, `P[c]` (10_state.md section 3). The two registers of `PERIOD_W` bits are naturals below
`2 ^ PERIOD_W` (log 7). -/
structure Pulse where
  /-- R28. -/
  dutyMode : BitVec 2
  /-- R29. -/
  dutyStep : BitVec 3
  /-- R30, `PERIOD_W` bits. -/
  timerPeriod : Nat
  /-- R31, `PERIOD_W` bits. -/
  timerCounter : Nat
  /-- R32. -/
  lengthEnabled : Bool
  /-- R33. -/
  lengthValue : BitVec 8
  /-- R34. -/
  sweepEnabled : Bool
  /-- R35. -/
  sweepNegate : Bool
  /-- R36. -/
  sweepShift : BitVec 3
  /-- R37. -/
  sweepPeriod : BitVec 3
  /-- R38. -/
  sweepDivider : BitVec 3
  /-- R39. -/
  sweepReload : Bool
  /-- R40. -/
  envEnabled : Bool
  /-- R41. -/
  envLoop : Bool
  /-- R42. -/
  envStart : Bool
  /-- R43. -/
  envPeriod : BitVec 4
  /-- R44. -/
  envDivider : BitVec 4
  /-- R45. -/
  envDecay : BitVec 4
  /-- R46. -/
  constVolume : BitVec 4
  deriving DecidableEq, Repr

/-- The triangle channel, `T` (10_state.md section 4). -/
structure Triangle where
  /-- R47, `PERIOD_W` bits. -/
  timerPeriod : Nat
  /-- R48, `PERIOD_W` bits. -/
  timerCounter : Nat
  /-- R49. -/
  step : BitVec 5
  /-- R50. -/
  linPeriod : BitVec 7
  /-- R51. -/
  linValue : BitVec 7
  /-- R52. -/
  linReload : Bool
  /-- R53. -/
  lengthEnabled : Bool
  /-- R54. -/
  lengthValue : BitVec 8
  deriving DecidableEq, Repr

/-- The whole state of the block (10_state.md R16). -/
structure Block where
  a : Coordinator
  p1 : Pulse
  p2 : Pulse
  t : Triangle
  deriving DecidableEq, Repr

/-- The channel index `c` of `P[c]` (00_scope.md R13). -/
inductive PulseIx where
  | one
  | two
  deriving DecidableEq, Repr

/-- `P[c]`. -/
def Block.pulse (b : Block) : PulseIx → Pulse
  | .one => b.p1
  | .two => b.p2

/-- `P[c] <- p`. -/
def Block.setPulse (b : Block) (c : PulseIx) (p : Pulse) : Block :=
  match c with
  | .one => { b with p1 := p }
  | .two => { b with p2 := p }

/-- The coordinator after reset: 4-step mode at step 0, the interrupt disabled, the enable flags from
`RESET_ENABLE_MASK` (70_reset_and_hazards.md R240 to R242, 10_state.md R58). -/
def Coordinator.reset (cfg : Config) : Coordinator where
  cycle := 0
  frameMode := .fourStep
  frameStep := 0
  irqEnabled := false
  enP1 := cfg.resetEnableMask.getLsbD 0
  enP2 := cfg.resetEnableMask.getLsbD 1
  enTri := cfg.resetEnableMask.getLsbD 2

/-- A pulse channel after reset: every field 0 (10_state.md R58). -/
def Pulse.reset : Pulse where
  dutyMode := 0
  dutyStep := 0
  timerPeriod := 0
  timerCounter := 0
  lengthEnabled := false
  lengthValue := 0
  sweepEnabled := false
  sweepNegate := false
  sweepShift := 0
  sweepPeriod := 0
  sweepDivider := 0
  sweepReload := false
  envEnabled := false
  envLoop := false
  envStart := false
  envPeriod := 0
  envDivider := 0
  envDecay := 0
  constVolume := 0

/-- The triangle channel after reset: every field 0 (10_state.md R58). -/
def Triangle.reset : Triangle where
  timerPeriod := 0
  timerCounter := 0
  step := 0
  linPeriod := 0
  linValue := 0
  linReload := false
  lengthEnabled := false
  lengthValue := 0

/-- The block after reset (70_reset_and_hazards.md R240). -/
def Block.reset (cfg : Config) : Block where
  a := Coordinator.reset cfg
  p1 := Pulse.reset
  p2 := Pulse.reset
  t := Triangle.reset

end Sys2Proof.Machine
end

