-- ==== Sys2Proof/Machine/Flags.lean ====
section
/-! DEFINITION. The block has no flags register (40_coordinator.md, opening). Its 1-bit conditions are here:
the event crossings, the frame sequencer's step table, and what mutes a channel. -/

namespace Sys2Proof.Machine

/-- `floor(c / P)` in exact integer arithmetic (40_coordinator.md R101). -/
def periodsPassed (p : Ratio) (c : Nat) : Nat := c * p.den / p.num

/-- `Crosses(old, P)` (40_coordinator.md R101). -/
def crosses (old : Nat) (p : Ratio) : Bool :=
  periodsPassed p (old + 1) != periodsPassed p old

/-- The pulse timers are clocked in an advance whose cycle count before the increment is even
(40_coordinator.md R103). -/
def pulseTimersClocked (old : Nat) : Bool := old % 2 == 0

/-- A frame clock at step `i` runs a quarter clock (40_coordinator.md R110 to R112). -/
def quarterAt (_mode : FrameMode) (i : BitVec 3) : Bool := i.toNat ≤ 3

/-- A frame clock at step `i` runs a half clock (40_coordinator.md R110 to R112). -/
def halfAt (mode : FrameMode) (i : BitVec 3) : Bool :=
  match mode with
  | .fourStep => i == 1#3 || i == 3#3
  | .fiveStep => i == 0#3 || i == 2#3

/-- A frame clock at step `i` raises the interrupt (40_coordinator.md R110 to R112). -/
def irqAt (mode : FrameMode) (i : BitVec 3) (enabled : Bool) : Bool :=
  match mode with
  | .fourStep => i == 3#3 && enabled
  | .fiveStep => false

/-- The step index after a frame clock at step `i` (40_coordinator.md R110). -/
def stepAfter (mode : FrameMode) (i : BitVec 3) : BitVec 3 :=
  match mode with
  | .fourStep => BitVec.ofNat 3 ((i.toNat + 1) % 4)
  | .fiveStep => BitVec.ofNat 3 ((i.toNat + 1) % 5)

/-- The entry of `DUTY_TABLE` the channel stands at (41_pulse.md R143). -/
def dutyHigh (cfg : Config) (p : Pulse) : Bool :=
  (cfg.dutyTable.get p.dutyMode.toFin).get p.dutyStep.toFin

/-- The channel is muted by its period (41_pulse.md R168, R170). -/
def periodMutes (p : Pulse) : Bool := p.timerPeriod < 8 || p.timerPeriod > 0x7FF

/-- The triangle's two counters are non-zero: its sequencer steps and its output is not muted
(42_triangle.md R195, R200). -/
def triangleSounds (t : Triangle) : Bool := t.lengthValue != 0#8 && t.linValue != 0#7

end Sys2Proof.Machine
end

