-- ==== Sys2Proof/Machine/Operands.lean ====
section
/-! DEFINITION. The fields of a write's data byte (30_encoding.md section 2), by masking and shifting only
(R75), and the slices of a timer period (00_scope.md R12). -/

namespace Sys2Proof.Machine

/-- `v[hi:lo]` as `n` bits from bit `lo` (00_scope.md R12). -/
def field (lo n : Nat) (v : Byte) : BitVec n := v.extractLsb' lo n

/-- `v[i]` (00_scope.md R12). -/
def bit (i : Nat) (v : Byte) : Bool := v.getLsbD i

/-! Pulse control, `DDLC VVVV` (30_encoding.md R77). -/

/-- `D`. -/
def ctrlDuty (v : Byte) : BitVec 2 := field 6 2 v
/-- `L`: halts the length counter and loops the envelope. -/
def ctrlHalt (v : Byte) : Bool := bit 5 v
/-- `C`: constant volume. -/
def ctrlConst (v : Byte) : Bool := bit 4 v
/-- `V`: constant volume and envelope period. -/
def ctrlVolume (v : Byte) : BitVec 4 := field 0 4 v

/-! Pulse sweep, `EPPP NSSS` (30_encoding.md R78). -/

/-- `E`. -/
def sweepEnable (v : Byte) : Bool := bit 7 v
/-- `P`. -/
def sweepPeriodField (v : Byte) : BitVec 3 := field 4 3 v
/-- `N`. -/
def sweepNegateField (v : Byte) : Bool := bit 3 v
/-- `S`. -/
def sweepShiftField (v : Byte) : BitVec 3 := field 0 3 v

/-! Timer high, `LLLL LTTT` (30_encoding.md R80 and R83). -/

/-- `L`: the length-table index. -/
def thiLengthIndex (v : Byte) : BitVec 5 := field 3 5 v
/-- `T`: bits 10:8 of the period. -/
def thiPeriodHigh (v : Byte) : BitVec 3 := field 0 3 v

/-! Triangle control, `CRRR RRRR` (30_encoding.md R81). -/

/-- `C`: halts the length counter and holds the linear reload. -/
def triHalt (v : Byte) : Bool := bit 7 v
/-- `R`: the linear-counter period. -/
def triLinPeriod (v : Byte) : BitVec 7 := field 0 7 v

/-! Channel enable, `---- -TBA` (30_encoding.md R84). -/

/-- `A`. -/
def enableP1 (v : Byte) : Bool := bit 0 v
/-- `B`. -/
def enableP2 (v : Byte) : Bool := bit 1 v
/-- `T`. -/
def enableTri (v : Byte) : Bool := bit 2 v

/-! Frame counter, `MI-- ----` (30_encoding.md R86). -/

/-- `M`: 1 is 5-step. -/
def frameFive (v : Byte) : Bool := bit 7 v
/-- `I`: inhibits the frame interrupt. -/
def frameInhibit (v : Byte) : Bool := bit 6 v

/-- Bits `lo + n - 1` down to `lo` of a register of any width (00_scope.md R12). -/
def slice (lo n x : Nat) : Nat := x / 2 ^ lo % 2 ^ n

/-- `period[PERIOD_W-1:8] ++ v[7:0]`: a timer-low write (41_pulse.md R148, 42_triangle.md R193). -/
def periodWithLow (periodW period : Nat) (v : Byte) : Nat :=
  slice 8 (periodW - 8) period * 2 ^ 8 + v.toNat

/-- `zext(v[2:0] ++ period[7:0])`: a timer-high write (41_pulse.md R150, 42_triangle.md R194). -/
def periodWithHigh (period : Nat) (v : Byte) : Nat :=
  (thiPeriodHigh v).toNat * 2 ^ 8 + slice 0 8 period

end Sys2Proof.Machine
end

