-- ==== Sys2Proof/Machine/Defaults.lean ====
section
/-! DEFINITION. The spec's default of every parameter (00_scope.md section 3). -/

namespace Sys2Proof.Machine

/-- The default `LENGTH_TABLE` (41_pulse.md R142). The source fixes entries 0, 1 and 31; the spec took the
other 29 from general knowledge (93_implementation_defined.md G1: PRESUMED, log 8). -/
def defaultLengthTable : Vector Byte 32 :=
  #v[10, 254, 20, 2, 40, 4, 80, 6, 160, 8, 60, 10, 14, 12, 26, 14,
     12, 16, 24, 18, 48, 20, 96, 22, 192, 24, 72, 26, 16, 28, 32, 30]

/-- The default `DUTY_TABLE` (41_pulse.md R143), which the spec took from general knowledge
(93_implementation_defined.md G2: PRESUMED, log 9). -/
def defaultDutyTable : Vector (Vector Bool 8) 4 :=
  #v[#v[false, true, false, false, false, false, false, false],
     #v[false, true, true, false, false, false, false, false],
     #v[false, true, true, true, true, false, false, false],
     #v[true, false, false, true, true, true, true, true]]

/-- The default `FRAME_PERIOD` (00_scope.md section 3; 93_implementation_defined.md G3: PRESUMED, log 10). -/
def defaultFramePeriod : Ratio := ⟨1789773, 240⟩

/-- The default `SAMPLE_PERIOD` (00_scope.md section 3; 93_implementation_defined.md G3: PRESUMED, log 10). -/
def defaultSamplePeriod : Ratio := ⟨1789773, 44100⟩

/-- The default of every parameter (00_scope.md section 3). The enable mask is OPEN: the suggested default
(92_eei_decisions.md D16: DESIGN CHOICE, log 6). -/
def defaultConfig : Config where
  periodW := 16
  framePeriod := defaultFramePeriod
  samplePeriod := defaultSamplePeriod
  lengthTable := defaultLengthTable
  dutyTable := defaultDutyTable
  resetEnableMask := 0b000

end Sys2Proof.Machine
end

