-- ==== Sys2Proof/Machine/Ports.lean ====
section
/-! DEFINITION. The block's boundary: its output ports, and what the host does (30_encoding.md R94). -/

namespace Sys2Proof.Machine

/-- The block's output ports (30_encoding.md R94). They are no state of the block (10_state.md R55): the model
records what the last operation put on them (log 4). -/
structure Outputs where
  /-- Read data of `RD`. -/
  rdata : Byte
  /-- The frame interrupt line (60_exceptions.md R223). -/
  irq : Bool
  /-- A sample is offered (40_coordinator.md R118). -/
  sampleValid : Bool
  /-- The offered sample. -/
  sample : Level
  deriving DecidableEq, Repr

/-- What the host does at the block's boundary (10_state.md R17, 30_encoding.md R71). -/
inductive HostEvent where
  /-- One operation: a transaction word, and whether the sink would accept a sample now (R94). -/
  | operation (word : TWord) (ready : Bool)
  /-- `attachSampleSink`, which is no operation of the block (R71, 92_eei_decisions.md D15). -/
  | attachSink
  deriving DecidableEq, Repr

/-- Every output port at 0 (30_encoding.md R94). -/
def Outputs.quiet : Outputs where
  rdata := 0
  irq := false
  sampleValid := false
  sample := 0

end Sys2Proof.Machine
end

