-- ==== Sys2Proof/Machine/State.lean ====
section
/-! DEFINITION. The machine's state: the block, its parameters, its ports, and what the host has issued. -/

namespace Sys2Proof.Machine

/-- The machine. -/
structure State where
  /-- The parameters, an argument of the model; nothing changes them (10_state.md R18, log 1). -/
  cfg : Config
  /-- The whole state of the block (10_state.md R16). -/
  blk : Block
  /-- The output ports after the last step (log 4). -/
  out : Outputs
  /-- The sample the sink took in the last step (40_coordinator.md R118, log 4). -/
  delivered : Option Level
  /-- The input port `sink_ready` (30_encoding.md R94, log 5). -/
  sinkReady : Bool
  /-- The environment has attached a sink (92_eei_decisions.md D15, log 5). -/
  sinkAttached : Bool
  /-- The host's events not yet taken, oldest first (20_memory.md R67, log 2). -/
  pending : List HostEvent
  deriving DecidableEq, Repr

/-- The block raises no exception and no error of any kind, and no operation can fail
(60_exceptions.md R220): there is no fault. -/
inductive Fault where
  deriving DecidableEq, Repr

/-- Why the model has no step. -/
inductive Refusal where
  /-- Raised by an arm of exec whose instruction has no meaning yet; no arm raises it now. Safe. -/
  | notModelled (mnemonic : String)
  /-- Raised by step on a transaction word that spells no operation (30_encoding.md R72, log 12). Safe. -/
  | illegalWord (why : IllegalWord)
  /-- Raised by step in a configuration the spec does not admit (00_scope.md R11, log 11). Safe. -/
  | configOutsideSpec
  deriving DecidableEq, Repr

/-- The machine right after power-on: the default parameters, the block as reset leaves it
(70_reset_and_hazards.md R240), ports at 0, no sink attached, and nothing issued by the host yet. -/
def State.reset : State where
  cfg := defaultConfig
  blk := Block.reset defaultConfig
  out := Outputs.quiet
  delivered := none
  sinkReady := false
  sinkAttached := false
  pending := []

end Sys2Proof.Machine
end

