-- ==== Sys2Proof/Machine/Ops.lean ====
section
/-! DEFINITION. The operations the meanings share: ending an operation with its outputs, the table look-ups,
the two write forms of a timer period's owner, and taking the host's next event.

The block takes no trap and returns from none (60_exceptions.md R228, R229), so there is no exception entry
here: raising the frame interrupt is an output of an advance (R223). The block has no memory (20_memory.md,
opening), so there is no memory operation. -/

namespace Sys2Proof.Machine

/-- An operation ends: the block's new state, its outputs, and the sample the sink took, if any. -/
def State.conclude (s : State) (b : Block) (o : Outputs) (d : Option Level) : State :=
  { s with blk := b, out := o, delivered := d }

/-- An operation with no output ends: every port is 0 (30_encoding.md R94) and nothing is delivered. -/
def State.settle (s : State) (b : Block) : State := s.conclude b Outputs.quiet none

/-- A read ends: `rdata` is the byte read, and the block is unchanged (20_memory.md R65). -/
def State.answer (s : State) (r : Byte) : State :=
  s.conclude s.blk { Outputs.quiet with rdata := r } none

/-- The coordinator's fields are written; the channels are not. -/
def Block.setA (b : Block) (a : Coordinator) : Block := { b with a := a }

/-- The triangle's fields are written; the rest is not. -/
def Block.setT (b : Block) (t : Triangle) : Block := { b with t := t }

/-- `LENGTH_TABLE[v[7:3]]` of a timer-high write (41_pulse.md R142). -/
def lengthFor (cfg : Config) (v : Byte) : Byte := cfg.lengthTable.get (thiLengthIndex v).toFin

/-- The length counter's decrement, the same for all three channels (41_pulse.md R166, 42_triangle.md R199). -/
def lengthDown (enabled : Bool) (value : BitVec 8) : BitVec 8 :=
  if enabled && value != 0#8 then value - 1 else value

/-- What a bus read returns: 0 at every address (40_coordinator.md R119, R120). -/
def busRead (_b : Block) (_addr : Addr) : Byte := 0x00

/-- The ports of an advance: the interrupt line and the offered sample (40_coordinator.md R106, R118). DESIGN CHOICE
(log 22, unsafe): without an offer the port `sample` is 0, where 30_encoding.md R94 gives an `ADV` no value. -/
def advanceOutputs (irq : Bool) (sample : Option Level) : Outputs where
  rdata := 0
  irq := irq
  sampleValid := sample.isSome
  sample := sample.getD 0#4

/-- What the sink takes of an offered sample: all of it or nothing (40_coordinator.md R118). -/
def sinkTakes (ready : Bool) (sample : Option Level) : Option Level :=
  if ready then sample else none

/-- Nothing is presented: the block holds and every port is 0 (30_encoding.md R94, log 3). -/
def State.idle (s : State) : State := s.settle s.blk

/-- The environment attaches a sink (92_eei_decisions.md D15). No operation of the block runs. -/
def State.attach (s : State) : State := { s.idle with sinkAttached := true }

/-- The oldest event is taken from the host's list. -/
def State.take (s : State) (rest : List HostEvent) : State := { s with pending := rest }

/-- The port `sink_ready` during an operation: 0 when no sink is attached (40_coordinator.md R118). -/
def State.drive (s : State) (ready : Bool) : State :=
  { s with sinkReady := s.sinkAttached && ready }

/-- The host issues a word before everything it has issued so far, with the sink as it stands. -/
def State.present (s : State) (word : TWord) : State :=
  { s with pending := .operation word s.sinkReady :: s.pending }

end Sys2Proof.Machine
end

