-- ==== Sys2Proof/Machine/PulseChannel.lean ====
section
/-! DEFINITION. The pulse channel's procedures and register writes (41_pulse.md), written once for both
channels (R140), and the meanings of its eight operations. -/

namespace Sys2Proof.Machine

/-- `PulseTimerClock` (41_pulse.md R152). -/
def Pulse.timerClock (p : Pulse) : Pulse :=
  if p.timerCounter = 0 then
    { p with timerCounter := p.timerPeriod, dutyStep := p.dutyStep + 1 }
  else
    { p with timerCounter := p.timerCounter - 1 }

/-- The decay level after a decay event (41_pulse.md R155, last branch). -/
def Pulse.decayed (p : Pulse) : BitVec 4 :=
  if p.envDecay ≠ 0#4 then p.envDecay - 1 else if p.envLoop then 15#4 else p.envDecay

/-- `EnvClock` (41_pulse.md R155). -/
def Pulse.envClock (p : Pulse) : Pulse :=
  if p.envStart then
    { p with envDecay := 15#4, envDivider := p.envPeriod, envStart := false }
  else if p.envDivider ≠ 0#4 then
    { p with envDivider := p.envDivider - 1 }
  else
    { p with envDivider := p.envPeriod, envDecay := p.decayed }

/-- The period `SweepApply` computes (41_pulse.md R164): the sum wraps at `PERIOD_W` bits (R165). -/
def Pulse.sweepTarget (periodW : Nat) (p : Pulse) : Nat :=
  let delta := p.timerPeriod >>> p.sweepShift.toNat
  if p.sweepNegate then p.timerPeriod - delta else (p.timerPeriod + delta) % 2 ^ periodW

/-- `SweepApply` (41_pulse.md R164). -/
def Pulse.sweepApply (periodW : Nat) (p : Pulse) : Pulse :=
  { p with timerPeriod := p.sweepTarget periodW }

/-- `SweepApply` where the sweep is enabled and the divider stands at 0 (41_pulse.md R159, R160). -/
def Pulse.sweepIfDue (periodW : Nat) (p : Pulse) : Pulse :=
  if p.sweepEnabled && p.sweepDivider == 0#3 then p.sweepApply periodW else p

/-- `SweepClock` (41_pulse.md R159). -/
def Pulse.sweepClock (periodW : Nat) (p : Pulse) : Pulse :=
  if p.sweepReload then
    { p.sweepIfDue periodW with sweepDivider := p.sweepPeriod, sweepReload := false }
  else if p.sweepDivider ≠ 0#3 then
    { p with sweepDivider := p.sweepDivider - 1 }
  else
    { p.sweepIfDue periodW with sweepDivider := p.sweepPeriod }

/-- `PulseLengthClock` (41_pulse.md R166). -/
def Pulse.lengthClock (p : Pulse) : Pulse :=
  { p with lengthValue := lengthDown p.lengthEnabled p.lengthValue }

/-- `PulseOutput` (41_pulse.md R168). -/
def Pulse.output (cfg : Config) (p : Pulse) : Level :=
  if p.lengthValue = 0#8 then 0#4
  else if !dutyHigh cfg p then 0#4
  else if periodMutes p then 0#4
  else if p.envEnabled then p.envDecay
  else p.constVolume

/-- `PulseCtrlWrite` (41_pulse.md R144, 30_encoding.md R77). -/
def Pulse.writeCtrl (p : Pulse) (v : Byte) : Pulse :=
  { p with
    dutyMode := ctrlDuty v
    lengthEnabled := !ctrlHalt v
    envLoop := ctrlHalt v
    envEnabled := !ctrlConst v
    envPeriod := ctrlVolume v
    constVolume := ctrlVolume v
    envStart := true }

/-- `PulseSweepWrite` (41_pulse.md R146, 30_encoding.md R78). -/
def Pulse.writeSweep (p : Pulse) (v : Byte) : Pulse :=
  { p with
    sweepEnabled := sweepEnable v
    sweepPeriod := sweepPeriodField v
    sweepNegate := sweepNegateField v
    sweepShift := sweepShiftField v
    sweepReload := true }

/-- `PulseTimerLowWrite` (41_pulse.md R148, 30_encoding.md R79). -/
def Pulse.writeTimerLow (periodW : Nat) (p : Pulse) (v : Byte) : Pulse :=
  { p with timerPeriod := periodWithLow periodW p.timerPeriod v }

/-- `PulseTimerHighWrite` (41_pulse.md R150, 30_encoding.md R80). -/
def Pulse.writeTimerHigh (cfg : Config) (p : Pulse) (v : Byte) : Pulse :=
  { p with
    lengthValue := lengthFor cfg v
    timerPeriod := periodWithHigh p.timerPeriod v
    timerCounter := periodWithHigh p.timerPeriod v
    dutyStep := 0
    envStart := true }

/-- A control write to channel `c` ends. -/
def pulseCtrlWrite (c : PulseIx) (v : Byte) (s : State) : State :=
  s.settle (s.blk.setPulse c ((s.blk.pulse c).writeCtrl v))

/-- A sweep write to channel `c` ends. -/
def pulseSweepWrite (c : PulseIx) (v : Byte) (s : State) : State :=
  s.settle (s.blk.setPulse c ((s.blk.pulse c).writeSweep v))

/-- A timer-low write to channel `c` ends. -/
def pulseTimerLowWrite (c : PulseIx) (v : Byte) (s : State) : State :=
  s.settle (s.blk.setPulse c ((s.blk.pulse c).writeTimerLow s.cfg.periodW v))

/-- A timer-high write to channel `c` ends. -/
def pulseTimerHighWrite (c : PulseIx) (v : Byte) (s : State) : State :=
  s.settle (s.blk.setPulse c ((s.blk.pulse c).writeTimerHigh s.cfg v))

/-- `WR_P1_CTRL` (41_pulse.md R144). -/
def execWrP1Ctrl (v : Byte) (s : State) : Host.Outcome State Fault Refusal :=
  .next (pulseCtrlWrite .one v s)

/-- `WR_P1_SWEEP` (41_pulse.md R146). -/
def execWrP1Sweep (v : Byte) (s : State) : Host.Outcome State Fault Refusal :=
  .next (pulseSweepWrite .one v s)

/-- `WR_P1_TLO` (41_pulse.md R148). -/
def execWrP1Tlo (v : Byte) (s : State) : Host.Outcome State Fault Refusal :=
  .next (pulseTimerLowWrite .one v s)

/-- `WR_P1_THI` (41_pulse.md R150). -/
def execWrP1Thi (v : Byte) (s : State) : Host.Outcome State Fault Refusal :=
  .next (pulseTimerHighWrite .one v s)

/-- `WR_P2_CTRL` (41_pulse.md R145). -/
def execWrP2Ctrl (v : Byte) (s : State) : Host.Outcome State Fault Refusal :=
  .next (pulseCtrlWrite .two v s)

/-- `WR_P2_SWEEP` (41_pulse.md R147). -/
def execWrP2Sweep (v : Byte) (s : State) : Host.Outcome State Fault Refusal :=
  .next (pulseSweepWrite .two v s)

/-- `WR_P2_TLO` (41_pulse.md R149). -/
def execWrP2Tlo (v : Byte) (s : State) : Host.Outcome State Fault Refusal :=
  .next (pulseTimerLowWrite .two v s)

/-- `WR_P2_THI` (41_pulse.md R151). -/
def execWrP2Thi (v : Byte) (s : State) : Host.Outcome State Fault Refusal :=
  .next (pulseTimerHighWrite .two v s)

end Sys2Proof.Machine
end

