-- ==== Sys2Proof/Machine/TriangleChannel.lean ====
section
/-! DEFINITION. The triangle channel's procedures and register writes (42_triangle.md), and the meanings of
its three operations. -/

namespace Sys2Proof.Machine

/-- `TRI_TABLE` (42_triangle.md R190). -/
def triTable : Vector Level 32 :=
  #v[15, 14, 13, 12, 11, 10, 9, 8, 7, 6, 5, 4, 3, 2, 1, 0,
     0, 1, 2, 3, 4, 5, 6, 7, 8, 9, 10, 11, 12, 13, 14, 15]

/-- `TriTimerClock` (42_triangle.md R195). -/
def Triangle.timerClock (t : Triangle) : Triangle :=
  if t.timerCounter = 0 then
    { t with
      timerCounter := t.timerPeriod
      step := if triangleSounds t then t.step + 1 else t.step }
  else
    { t with timerCounter := t.timerCounter - 1 }

/-- `LinClock` (42_triangle.md R197). -/
def Triangle.linClock (t : Triangle) : Triangle :=
  { t with
    linValue :=
      if t.linReload then t.linPeriod
      else if t.linValue ≠ 0#7 then t.linValue - 1
      else t.linValue
    linReload := if t.lengthEnabled then false else t.linReload }

/-- `TriLengthClock` (42_triangle.md R199). -/
def Triangle.lengthClock (t : Triangle) : Triangle :=
  { t with lengthValue := lengthDown t.lengthEnabled t.lengthValue }

/-- `TriOutput` (42_triangle.md R200). -/
def Triangle.output (t : Triangle) : Level :=
  if triangleSounds t then triTable.get t.step.toFin else 0#4

/-- The triangle control write (42_triangle.md R192, 30_encoding.md R81). -/
def Triangle.writeCtrl (t : Triangle) (v : Byte) : Triangle :=
  { t with lengthEnabled := !triHalt v, linPeriod := triLinPeriod v }

/-- The triangle timer-low write (42_triangle.md R193, 30_encoding.md R82). -/
def Triangle.writeTimerLow (periodW : Nat) (t : Triangle) (v : Byte) : Triangle :=
  { t with timerPeriod := periodWithLow periodW t.timerPeriod v }

/-- The triangle timer-high write: the timer and the step are not restarted (42_triangle.md R194,
30_encoding.md R83). -/
def Triangle.writeTimerHigh (cfg : Config) (t : Triangle) (v : Byte) : Triangle :=
  { t with
    lengthValue := lengthFor cfg v
    timerPeriod := periodWithHigh t.timerPeriod v
    linReload := true }

/-- `WR_TRI_CTRL` (42_triangle.md R192). -/
def execWrTriCtrl (v : Byte) (s : State) : Host.Outcome State Fault Refusal :=
  .next (s.settle (s.blk.setT (s.blk.t.writeCtrl v)))

/-- `WR_TRI_TLO` (42_triangle.md R193). -/
def execWrTriTlo (v : Byte) (s : State) : Host.Outcome State Fault Refusal :=
  .next (s.settle (s.blk.setT (s.blk.t.writeTimerLow s.cfg.periodW v)))

/-- `WR_TRI_THI` (42_triangle.md R194). -/
def execWrTriThi (v : Byte) (s : State) : Host.Outcome State Fault Refusal :=
  .next (s.settle (s.blk.setT (s.blk.t.writeTimerHigh s.cfg v)))

end Sys2Proof.Machine
end

