-- ==== Sys2Proof/Machine/CoordinatorUnit.lean ====
section
/-! DEFINITION. The coordinator: the frame sequencer, the mixer, the advance, and the operations it owns
(40_coordinator.md). -/

namespace Sys2Proof.Machine

/-- `QuarterClock` (40_coordinator.md R113). -/
def Block.quarterClock (b : Block) : Block :=
  { b with p1 := b.p1.envClock, p2 := b.p2.envClock, t := b.t.linClock }

/-- `HalfClock` (40_coordinator.md R114). -/
def Block.halfClock (cfg : Config) (b : Block) : Block :=
  { b with
    p1 := (b.p1.sweepClock cfg.periodW).lengthClock
    p2 := (b.p2.sweepClock cfg.periodW).lengthClock
    t := b.t.lengthClock }

/-- The step index advances (40_coordinator.md R110). -/
def Block.nextStep (b : Block) : Block :=
  b.setA { b.a with frameStep := stepAfter b.a.frameMode b.a.frameStep }

/-- `FrameClock` (40_coordinator.md R110 to R112, and R115 for index 4 in 4-step mode). -/
def Block.frameClock (cfg : Config) (b : Block) : Block :=
  let q := if quarterAt b.a.frameMode b.a.frameStep then b.quarterClock else b
  let h := if halfAt b.a.frameMode b.a.frameStep then q.halfClock cfg else q
  h.nextStep

/-- A frame clock of this state raises the interrupt (40_coordinator.md R110, 60_exceptions.md R223). -/
def Block.frameIrq (b : Block) : Bool := irqAt b.a.frameMode b.a.frameStep b.a.irqEnabled

/-- The mixer's sum of the enabled channels' outputs (40_coordinator.md R117). -/
def Block.mixSum (cfg : Config) (b : Block) : Nat :=
  (if b.a.enP1 then (b.p1.output cfg).toNat else 0) +
  (if b.a.enP2 then (b.p2.output cfg).toNat else 0) +
  (if b.a.enTri then b.t.output.toNat else 0)

/-- `Mix` (40_coordinator.md R117). -/
def Block.mix (cfg : Config) (b : Block) : Level := BitVec.ofNat 4 (b.mixSum cfg / 3)

/-- The channel timers of one advance (40_coordinator.md R103 to R105). -/
def Block.timers (b : Block) : Block :=
  { b with
    p1 := if pulseTimersClocked b.a.cycle then b.p1.timerClock else b.p1
    p2 := if pulseTimersClocked b.a.cycle then b.p2.timerClock else b.p2
    t := b.t.timerClock }

/-- The channel timers, then the cycle counter's increment (40_coordinator.md R105). -/
def Block.tick (b : Block) : Block :=
  b.timers.setA { b.a with cycle := b.a.cycle + 1 }

/-- The block after one advance (40_coordinator.md R100). -/
def Block.advance (cfg : Config) (b : Block) : Block :=
  if crosses b.a.cycle cfg.framePeriod then b.tick.frameClock cfg else b.tick

/-- The advance raises the interrupt (40_coordinator.md R106, 60_exceptions.md R223). -/
def Block.advanceIrq (cfg : Config) (b : Block) : Bool :=
  crosses b.a.cycle cfg.framePeriod && b.tick.frameIrq

/-- The sample the advance offers, mixed after its frame clock (40_coordinator.md R100, R105). -/
def Block.advanceSample (cfg : Config) (b : Block) : Option Level :=
  if crosses b.a.cycle cfg.samplePeriod then some ((b.advance cfg).mix cfg) else none

/-- `ADV` (40_coordinator.md R100). -/
def execAdv (s : State) : Host.Outcome State Fault Refusal :=
  .next (s.conclude (s.blk.advance s.cfg)
    (advanceOutputs (s.blk.advanceIrq s.cfg) (s.blk.advanceSample s.cfg))
    (sinkTakes s.sinkReady (s.blk.advanceSample s.cfg)))

/-- The channel-enable write (40_coordinator.md R108, 30_encoding.md R84). -/
def Coordinator.writeEnable (a : Coordinator) (v : Byte) : Coordinator :=
  { a with enP1 := enableP1 v, enP2 := enableP2 v, enTri := enableTri v }

/-- The frame-counter write: the step index stays (40_coordinator.md R109, 30_encoding.md R86). -/
def Coordinator.writeFrame (a : Coordinator) (v : Byte) : Coordinator :=
  { a with
    frameMode := if frameFive v then .fiveStep else .fourStep
    irqEnabled := !frameInhibit v }

/-- `WR_APU_ENABLE` (40_coordinator.md R108). -/
def execWrApuEnable (v : Byte) (s : State) : Host.Outcome State Fault Refusal :=
  .next (s.settle (s.blk.setA (s.blk.a.writeEnable v)))

/-- `WR_FRAME_CTRL` (40_coordinator.md R109). -/
def execWrFrameCtrl (v : Byte) (s : State) : Host.Outcome State Fault Refusal :=
  .next (s.settle (s.blk.setA (s.blk.a.writeFrame v)))

/-- `WR_UNMAPPED`: no state is written (40_coordinator.md R121). -/
def execWrUnmapped (_addr : Addr) (_v : Byte) (s : State) : Host.Outcome State Fault Refusal :=
  .next (s.settle s.blk)

/-- `RD_STATUS` (40_coordinator.md R119). -/
def execRdStatus (s : State) : Host.Outcome State Fault Refusal :=
  .next (s.answer (busRead s.blk statusAddr))

/-- `RD_OTHER` (40_coordinator.md R120). -/
def execRdOther (addr : Addr) (s : State) : Host.Outcome State Fault Refusal :=
  .next (s.answer (busRead s.blk addr))

/-- `RST`: every field of the block takes its reset value; the parameters and the sink connection stay
(40_coordinator.md R122, 70_reset_and_hazards.md R240, R244). -/
def execRst (s : State) : Host.Outcome State Fault Refusal :=
  .next (s.settle (Block.reset s.cfg))

end Sys2Proof.Machine
end

