-- ==== Sys2Proof/Machine/Dispatch.lean ====
section
/-! DEFINITION. Which meaning each operation has: one arm per row of spec/opcode_table.json. -/

namespace Sys2Proof.Machine

def exec (i : Instr) (s : State) : Host.Outcome State Fault Refusal :=
  match i with
  | .adv => Sys2Proof.Machine.execAdv s
  | .wrP1Ctrl v => Sys2Proof.Machine.execWrP1Ctrl v s
  | .wrP1Sweep v => Sys2Proof.Machine.execWrP1Sweep v s
  | .wrP1Tlo v => Sys2Proof.Machine.execWrP1Tlo v s
  | .wrP1Thi v => Sys2Proof.Machine.execWrP1Thi v s
  | .wrP2Ctrl v => Sys2Proof.Machine.execWrP2Ctrl v s
  | .wrP2Sweep v => Sys2Proof.Machine.execWrP2Sweep v s
  | .wrP2Tlo v => Sys2Proof.Machine.execWrP2Tlo v s
  | .wrP2Thi v => Sys2Proof.Machine.execWrP2Thi v s
  | .wrTriCtrl v => Sys2Proof.Machine.execWrTriCtrl v s
  | .wrTriTlo v => Sys2Proof.Machine.execWrTriTlo v s
  | .wrTriThi v => Sys2Proof.Machine.execWrTriThi v s
  | .wrApuEnable v => Sys2Proof.Machine.execWrApuEnable v s
  | .wrFrameCtrl v => Sys2Proof.Machine.execWrFrameCtrl v s
  | .wrUnmapped addr v => Sys2Proof.Machine.execWrUnmapped addr v s
  | .rdStatus => Sys2Proof.Machine.execRdStatus s
  | .rdOther addr => Sys2Proof.Machine.execRdOther addr s
  | .rst => Sys2Proof.Machine.execRst s

end Sys2Proof.Machine
end

