-- ==== Sys2Proof/Machine/Step.lean ====
section
/-! DEFINITION. One step of the machine: it takes the host's oldest event and does it (00_scope.md R15,
10_state.md R17, 20_memory.md R67). -/

namespace Sys2Proof.Machine

/-- One transaction word is presented with the sink ready or not: the operation it spells runs, and a word
that spells none has no step (30_encoding.md R72, R94). -/
def runWord (word : TWord) (ready : Bool) (s : State) : Host.Outcome State Fault Refusal :=
  match decode word with
  | .ok i => exec i (s.drive ready)
  | .error why => .refused (.illegalWord why)

/-- The host's oldest event happens; with none the machine idles (log 3). -/
def stepEvent (s : State) : Host.Outcome State Fault Refusal :=
  match s.pending with
  | [] => .next s.idle
  | .attachSink :: rest => .next (s.take rest).attach
  | .operation word ready :: rest => runWord word ready (s.take rest)

/-- One step. A configuration the spec does not admit has none (00_scope.md R11, log 11). -/
def step (s : State) : Host.Outcome State Fault Refusal :=
  if s.cfg.Legal then stepEvent s else .refused .configOutsideSpec

/-- The state in which the very next step runs the instruction whose bits are `w`: the host has issued that
word before everything else (log 2). A number wider than a word stands for no word and is not issued. -/
def State.withFetchWord (s : State) (nbits w : Nat) : State :=
  match wordOfNat (w % 2 ^ nbits) with
  | some word => s.present word
  | none => s

end Sys2Proof.Machine
end

