-- ==== Sys2Proof/Machine/Assembler.lean ====
section
/-! DEFINITION. The assembler's lines and its pseudo-instructions, down to transaction words (30_encoding.md
section 3), and how the host comes to issue a program (log 2, log 17). -/

namespace Sys2Proof.Machine

/-- The expansion of `ADV <n>` (30_encoding.md R88). -/
def expandAdv (n : Nat) : List Instr := List.replicate n .adv

/-- The first register address of a channel, which `SETTIMER` names (30_encoding.md R89). -/
inductive TimerBase where
  | pulse1
  | pulse2
  | triangle
  deriving DecidableEq, Repr

/-- The data byte of the high write `SETTIMER` makes (30_encoding.md R89). -/
def setTimerHighByte (period : BitVec 11) (lenidx : BitVec 5) : Byte :=
  lenidx ++ period.extractLsb' 8 3

/-- The expansion of `SETTIMER <base>, <period>, <lenidx>`: the low byte first (30_encoding.md R89). -/
def expandSetTimer (base : TimerBase) (period : BitVec 11) (lenidx : BitVec 5) : List Instr :=
  let lo : Byte := period.extractLsb' 0 8
  let hi : Byte := setTimerHighByte period lenidx
  match base with
  | .pulse1 => [.wrP1Tlo lo, .wrP1Thi hi]
  | .pulse2 => [.wrP2Tlo lo, .wrP2Thi hi]
  | .triangle => [.wrTriTlo lo, .wrTriThi hi]

/-- A decimal or hexadecimal digit's value. -/
def digit (c : Char) : Option Nat :=
  if '0' ≤ c ∧ c ≤ '9' then some (c.toNat - '0'.toNat)
  else if 'a' ≤ c ∧ c ≤ 'f' then some (c.toNat - 'a'.toNat + 10)
  else if 'A' ≤ c ∧ c ≤ 'F' then some (c.toNat - 'A'.toNat + 10)
  else none

/-- Digits in a base, after the value read so far. -/
def digits (base : Nat) : Nat → List Char → Option Nat
  | acc, [] => some acc
  | acc, c :: cs =>
    match digit c with
    | none => none
    | some d => if d < base then digits base (acc * base + d) cs else none

/-- A number: hexadecimal with `0x`, or decimal (30_encoding.md R87). -/
def number (bound : Nat) (cs : List Char) : Option Nat :=
  let value :=
    match cs with
    | [] => none
    | '0' :: 'x' :: h :: hs => digits 16 0 (h :: hs)
    | c :: cs => digits 10 0 (c :: cs)
  match value with
  | none => none
  | some n => if n < bound then some n else none

/-- A word put before a line's later words, unless it is empty; its letters come in reverse. -/
def flush (cur : List Char) (rest : List (List Char)) : List (List Char) :=
  if cur = [] then rest else cur.reverse :: rest

/-- A line's words; a comma is a word, and `;` starts a comment (30_encoding.md R87). -/
def lineWords : List Char → List Char → List (List Char)
  | cur, [] => flush cur []
  | cur, c :: cs =>
    if c = ';' then flush cur []
    else if c = ' ' ∨ c = '\t' then flush cur (lineWords [] cs)
    else if c = ',' then flush cur ([','] :: lineWords [] cs)
    else lineWords (c :: cur) cs

/-- The mnemonics that may stand in place of `WR <addr>` (30_encoding.md R87, R90). -/
def writeMnemonics : List (String × Addr) :=
  [("WR_P1_CTRL", 0x4000), ("WR_P1_SWEEP", 0x4001), ("WR_P1_TLO", 0x4002), ("WR_P1_THI", 0x4003),
   ("WR_P2_CTRL", 0x4004), ("WR_P2_SWEEP", 0x4005), ("WR_P2_TLO", 0x4006), ("WR_P2_THI", 0x4007),
   ("WR_TRI_CTRL", 0x4008), ("WR_TRI_TLO", 0x400A), ("WR_TRI_THI", 0x400B),
   ("WR_APU_ENABLE", 0x4015), ("WR_FRAME_CTRL", 0x4017)]

/-- The address a write mnemonic stands for. -/
def writeMnemonic (w : List Char) : Option Addr :=
  (writeMnemonics.find? (fun row => row.1.toList == w)).map (fun row => row.2)

/-- The channel a `SETTIMER` base address names (30_encoding.md R89). -/
def timerBase (a : Nat) : Option TimerBase :=
  if a = 0x4000 then some .pulse1
  else if a = 0x4004 then some .pulse2
  else if a = 0x4008 then some .triangle
  else none

/-- `WR <addr>, <data>`: the word of R92. -/
def writeWord (a d : Nat) : TWord := transaction 0b01 (BitVec.ofNat 16 a) (BitVec.ofNat 8 d)

/-- A line's words as transaction words, or none where the line has no form of 30_encoding.md R87 to R89. -/
def assembleWords (ws : List (List Char)) : Option (List TWord) :=
  match ws with
  | [] => some []
  | [op] =>
    if op = "ADV".toList then some [encode .adv]
    else if op = "RST".toList then some [encode .rst]
    else none
  | [op, x] =>
    if op = "ADV".toList then do
      let n ← number (2 ^ 64) x
      if n = 0 then none else some ((expandAdv n).map encode)
    else if op = "RD".toList then do
      let a ← number (2 ^ 16) x
      some [encode (decodeRead (BitVec.ofNat 16 a))]
    else do
      let a ← writeMnemonic op
      let d ← number (2 ^ 8) x
      some [writeWord a.toNat d]
  | [op, x, comma, y] =>
    if op = "WR".toList ∧ comma = [','] then do
      let a ← number (2 ^ 16) x
      let d ← number (2 ^ 8) y
      some [writeWord a d]
    else none
  | [op, x, comma, y, comma', z] =>
    if op = "SETTIMER".toList ∧ comma = [','] ∧ comma' = [','] then do
      let base ← (number (2 ^ 16) x).bind timerBase
      let p ← number (2 ^ 11) y
      let l ← number (2 ^ 5) z
      some ((expandSetTimer base (BitVec.ofNat 11 p) (BitVec.ofNat 5 l)).map encode)
    else none
  | _ => none

/-- One line of a program (30_encoding.md R87). -/
def assembleLine (line : String) : Option (List TWord) :=
  assembleWords (lineWords [] line.toList)

/-- The host issues words in order after everything it has issued so far, the sink ready or not for all of
them alike (30_encoding.md R88). -/
def State.issue (s : State) (ready : Bool) (words : List TWord) : State :=
  { s with pending := s.pending ++ words.map (fun w => .operation w ready) }

end Sys2Proof.Machine
end

