-- ==== Sys2Proof/Safety.lean ====
section
/-! DEFINITION. The terms claims use: what is legal in a state, runs of operations and what is counted along
them, and which parts of two states agree. -/

namespace Sys2Proof.Machine

/-! ## Legal states -/

/-- Legal values of the coordinator (10_state.md R24). -/
abbrev Coordinator.Ok (a : Coordinator) : Prop := a.frameStep.toNat ≤ 4

/-- Legal values of a pulse channel: the timer registers fit `PERIOD_W` bits (10_state.md R30, R31), the length
value is at most 254 (R33), and the envelope period and the constant volume agree (R46). -/
abbrev Pulse.Ok (cfg : Config) (p : Pulse) : Prop :=
  p.timerPeriod < 2 ^ cfg.periodW ∧ p.timerCounter < 2 ^ cfg.periodW ∧
  p.lengthValue.toNat ≤ 254 ∧ p.envPeriod = p.constVolume

/-- Legal values of the triangle channel (10_state.md R47, R48, R54). -/
abbrev Triangle.Ok (cfg : Config) (t : Triangle) : Prop :=
  t.timerPeriod ≤ 0x7FF ∧ t.timerCounter < 2 ^ cfg.periodW ∧ t.lengthValue.toNat ≤ 254

/-- Legal values of the block. -/
abbrev Block.Ok (cfg : Config) (b : Block) : Prop :=
  b.a.Ok ∧ b.p1.Ok cfg ∧ b.p2.Ok cfg ∧ b.t.Ok cfg

/-- What the ports and the environment's record can show together: read data is always 0 (30_encoding.md R94);
no sample value stands without an offer (in an `ADV` the model's choice, log 22); the interrupt line is high only just
after the frame clock that wrapped the 4-step index with the interrupt enabled (60_exceptions.md R223); what the sink
took is what was offered, and only a ready sink takes (40_coordinator.md R118); a sink that is not attached is not
ready (R118). -/
abbrev State.PortsOk (s : State) : Prop :=
  s.out.rdata = 0#8 ∧
  (s.out.sampleValid = false → s.out.sample = 0#4) ∧
  (s.out.irq = true →
    s.blk.a.frameMode = .fourStep ∧ s.blk.a.irqEnabled = true ∧ s.blk.a.frameStep = 0#3) ∧
  (s.delivered = none ∨
    s.delivered = some s.out.sample ∧ s.out.sampleValid = true ∧ s.sinkReady = true) ∧
  (s.sinkReady = true → s.sinkAttached = true)

/-- The invariant of the machine. -/
abbrev State.Inv (s : State) : Prop := s.cfg.Legal ∧ s.blk.Ok s.cfg ∧ s.PortsOk

/-! ## Events of one advance, in the spec's own arithmetic -/

/-- The advance from `s` crosses a frame period (40_coordinator.md R101). -/
abbrev State.FrameEvent (s : State) : Prop :=
  (s.blk.a.cycle + 1) * s.cfg.framePeriod.den / s.cfg.framePeriod.num ≠
    s.blk.a.cycle * s.cfg.framePeriod.den / s.cfg.framePeriod.num

/-- The advance from `s` crosses a sample period (40_coordinator.md R101). -/
abbrev State.SampleEvent (s : State) : Prop :=
  (s.blk.a.cycle + 1) * s.cfg.samplePeriod.den / s.cfg.samplePeriod.num ≠
    s.blk.a.cycle * s.cfg.samplePeriod.den / s.cfg.samplePeriod.num

/-- The advance from `s` runs a quarter clock (40_coordinator.md R111, R112). -/
abbrev State.QuarterEvent (s : State) : Prop := s.FrameEvent ∧ s.blk.a.frameStep.toNat ≤ 3

/-- The advance from `s` runs a half clock (40_coordinator.md R111, R112). -/
abbrev State.HalfEvent (s : State) : Prop :=
  s.FrameEvent ∧
    (s.blk.a.frameMode = .fourStep ∧ (s.blk.a.frameStep = 1#3 ∨ s.blk.a.frameStep = 3#3) ∨
     s.blk.a.frameMode = .fiveStep ∧ (s.blk.a.frameStep = 0#3 ∨ s.blk.a.frameStep = 2#3))

/-! ## What a register write leaves -/

/-- The block with every field 0 but the enable flags (10_state.md R58). -/
def clearedBlock (mask : BitVec 3) : Block where
  a :=
    { cycle := 0, frameMode := .fourStep, frameStep := 0, irqEnabled := false,
      enP1 := mask.getLsbD 0, enP2 := mask.getLsbD 1, enTri := mask.getLsbD 2 }
  p1 := clearedPulse
  p2 := clearedPulse
  t :=
    { timerPeriod := 0, timerCounter := 0, step := 0, linPeriod := 0, linValue := 0, linReload := false,
      lengthEnabled := false, lengthValue := 0 }
where
  /-- A pulse channel with every field 0. -/
  clearedPulse : Pulse :=
    { dutyMode := 0, dutyStep := 0, timerPeriod := 0, timerCounter := 0, lengthEnabled := false,
      lengthValue := 0, sweepEnabled := false, sweepNegate := false, sweepShift := 0, sweepPeriod := 0,
      sweepDivider := 0, sweepReload := false, envEnabled := false, envLoop := false, envStart := false,
      envPeriod := 0, envDivider := 0, envDecay := 0, constVolume := 0 }

/-- A pulse channel after a control write (30_encoding.md R77). -/
def Pulse.controlled (p : Pulse) (v : Byte) : Pulse :=
  { p with
    dutyMode := v.extractLsb' 6 2
    lengthEnabled := !v.getLsbD 5
    envLoop := v.getLsbD 5
    envEnabled := !v.getLsbD 4
    envPeriod := v.extractLsb' 0 4
    constVolume := v.extractLsb' 0 4
    envStart := true }

/-- A pulse channel after a sweep write (30_encoding.md R78). -/
def Pulse.swept (p : Pulse) (v : Byte) : Pulse :=
  { p with
    sweepEnabled := v.getLsbD 7
    sweepPeriod := v.extractLsb' 4 3
    sweepNegate := v.getLsbD 3
    sweepShift := v.extractLsb' 0 3
    sweepReload := true }

/-- A pulse channel after a timer-high write (30_encoding.md R80). -/
def Pulse.restarted (cfg : Config) (p : Pulse) (v : Byte) : Pulse :=
  { p with
    lengthValue := cfg.lengthTable.get (v.extractLsb' 3 5).toFin
    timerPeriod := v.toNat % 8 * 256 + p.timerPeriod % 256
    timerCounter := v.toNat % 8 * 256 + p.timerPeriod % 256
    dutyStep := 0
    envStart := true }

/-! ## What one advance does to a part of the block, `p` before and `q` after -/

/-- The fields of a pulse channel that only a register write sets (10_state.md section 3). -/
def Pulse.KeepsProgrammed (p q : Pulse) : Prop :=
  q.dutyMode = p.dutyMode ∧ q.lengthEnabled = p.lengthEnabled ∧ q.sweepEnabled = p.sweepEnabled ∧
  q.sweepNegate = p.sweepNegate ∧ q.sweepShift = p.sweepShift ∧ q.sweepPeriod = p.sweepPeriod ∧
  q.envEnabled = p.envEnabled ∧ q.envLoop = p.envLoop ∧ q.envPeriod = p.envPeriod ∧
  q.constVolume = p.constVolume

/-- The pulse timer clock (41_pulse.md R152). -/
def Pulse.TimerClocked (p q : Pulse) : Prop :=
  (p.timerCounter = 0 →
    q.timerCounter = p.timerPeriod ∧ q.dutyStep.toNat = (p.dutyStep.toNat + 1) % 8) ∧
  (p.timerCounter ≠ 0 → q.timerCounter = p.timerCounter - 1 ∧ q.dutyStep = p.dutyStep)

/-- No pulse timer clock. -/
def Pulse.TimerHeld (p q : Pulse) : Prop := q.timerCounter = p.timerCounter ∧ q.dutyStep = p.dutyStep

/-- The envelope clock (41_pulse.md R155). -/
def Pulse.EnvClocked (p q : Pulse) : Prop :=
  q.envStart = false ∧
  (p.envStart = true → q.envDecay = 15#4 ∧ q.envDivider = p.envPeriod) ∧
  (p.envStart = false → p.envDivider ≠ 0#4 →
    q.envDivider.toNat = p.envDivider.toNat - 1 ∧ q.envDecay = p.envDecay) ∧
  (p.envStart = false → p.envDivider = 0#4 →
    q.envDivider = p.envPeriod ∧
    (p.envDecay ≠ 0#4 → q.envDecay.toNat = p.envDecay.toNat - 1) ∧
    (p.envDecay = 0#4 → p.envLoop = true → q.envDecay = 15#4) ∧
    (p.envDecay = 0#4 → p.envLoop = false → q.envDecay = 0#4))

/-- No envelope clock. -/
def Pulse.EnvHeld (p q : Pulse) : Prop :=
  q.envStart = p.envStart ∧ q.envDivider = p.envDivider ∧ q.envDecay = p.envDecay

/-- The period after a sweep adjustment (41_pulse.md R164). -/
def Pulse.adjustedPeriod (w : Nat) (p : Pulse) : Nat :=
  if p.sweepNegate = true then p.timerPeriod - p.timerPeriod / 2 ^ p.sweepShift.toNat
  else (p.timerPeriod + p.timerPeriod / 2 ^ p.sweepShift.toNat) % 2 ^ w

/-- The sweep clock (41_pulse.md R159). -/
def Pulse.SweepClocked (w : Nat) (p q : Pulse) : Prop :=
  q.sweepReload = false ∧
  (p.sweepReload = true ∨ p.sweepDivider = 0#3 → q.sweepDivider = p.sweepPeriod) ∧
  (p.sweepReload = false → p.sweepDivider ≠ 0#3 → q.sweepDivider.toNat = p.sweepDivider.toNat - 1) ∧
  (p.sweepEnabled = true ∧ p.sweepDivider = 0#3 → q.timerPeriod = p.adjustedPeriod w) ∧
  (¬ (p.sweepEnabled = true ∧ p.sweepDivider = 0#3) → q.timerPeriod = p.timerPeriod)

/-- No sweep clock. -/
def Pulse.SweepHeld (p q : Pulse) : Prop :=
  q.sweepReload = p.sweepReload ∧ q.sweepDivider = p.sweepDivider ∧ q.timerPeriod = p.timerPeriod

/-- A length clock (41_pulse.md R166, 42_triangle.md R199). -/
def LengthClocked (enabled : Bool) (before after : BitVec 8) : Prop :=
  (enabled = true → after.toNat = before.toNat - 1) ∧ (enabled = false → after = before)

/-- The block after the timers and the count of one advance, before its frame clock (40_coordinator.md R105). -/
def Block.timedAndCounted (b : Block) : Block where
  a := { b.a with cycle := b.a.cycle + 1 }
  p1 := if b.a.cycle % 2 = 0 then b.p1.timerClock else b.p1
  p2 := if b.a.cycle % 2 = 0 then b.p2.timerClock else b.p2
  t := b.t.timerClock

/-- The block after a quarter clock (40_coordinator.md R113). -/
def Block.quarterClocked (b : Block) : Block :=
  { b with p1 := b.p1.envClock, p2 := b.p2.envClock, t := b.t.linClock }

/-- The block after a half clock (40_coordinator.md R114). -/
def Block.halfClocked (cfg : Config) (b : Block) : Block :=
  { b with
    p1 := (b.p1.sweepClock cfg.periodW).lengthClock
    p2 := (b.p2.sweepClock cfg.periodW).lengthClock
    t := b.t.lengthClock }

/-- The block with another step index. -/
def Block.atStep (b : Block) (i : BitVec 3) : Block := { b with a := { b.a with frameStep := i } }

/-! ## Results -/

/-- `s` after an operation that drives no output port and delivers nothing, with block `b` (30_encoding.md R94; that the
ports stand in State is log 4). -/
def State.withBlock (s : State) (b : Block) : State :=
  { s with
    blk := b
    out := { rdata := 0, irq := false, sampleValid := false, sample := 0 }
    delivered := none }

/-! ## Channel outputs, written from the output rules and not from the machine's tables -/

/-- `PulseOutput` as 41_pulse.md R168 words it. -/
def pulseLevel (cfg : Config) (p : Pulse) : Nat :=
  if p.lengthValue = 0#8 ∨ (cfg.dutyTable.get p.dutyMode.toFin).get p.dutyStep.toFin = false ∨
      p.timerPeriod < 8 ∨ 0x7FF < p.timerPeriod then 0
  else if p.envEnabled = true then p.envDecay.toNat
  else p.constVolume.toNat

/-- `TriOutput` as 42_triangle.md R200 words it, with the table's formula of R190. -/
def triangleLevel (t : Triangle) : Nat :=
  if t.lengthValue = 0#8 ∨ t.linValue = 0#7 then 0
  else if t.step.toNat ≤ 15 then 15 - t.step.toNat
  else t.step.toNat - 16

/-- The mixer's sum (40_coordinator.md R117). -/
def mixedLevels (cfg : Config) (b : Block) : Nat :=
  (if b.a.enP1 = true then pulseLevel cfg b.p1 else 0) +
  (if b.a.enP2 = true then pulseLevel cfg b.p2 else 0) +
  (if b.a.enTri = true then triangleLevel b.t else 0)

/-! ## Runs -/

/-- Operations run one after another (20_memory.md R67). -/
def execAll : List Instr → State → Host.Outcome State Fault Refusal
  | [], s => .next s
  | i :: is, s =>
    match exec i s with
    | .next t => execAll is t
    | .fault r => .fault r
    | .refused r => .refused r

/-- How many of the next `n` advances satisfy `f` of the state before and the state after. -/
def countAdvances (f : State → State → Bool) : Nat → State → Nat
  | 0, _ => 0
  | n + 1, s =>
    match exec .adv s with
    | .next t => (if f s t then 1 else 0) + countAdvances f n t
    | .fault _ => 0
    | .refused _ => 0

/-- Frame clocks in the next `n` advances: every frame clock moves the step index, and nothing else does. -/
def frameClocks : Nat → State → Nat :=
  countAdvances fun s t => t.blk.a.frameStep != s.blk.a.frameStep

/-- Interrupts raised in the next `n` advances. -/
def interrupts : Nat → State → Nat := countAdvances fun _ t => t.out.irq

/-- Samples offered in the next `n` advances. -/
def samplesOffered : Nat → State → Nat := countAdvances fun _ t => t.out.sampleValid

/-- `floor((a + n) / P) - floor(a / P)`: crossings of a period from cycle `a` over `n` advances
(40_coordinator.md R102). -/
def crossingsOver (p : Ratio) (a n : Nat) : Nat :=
  (a + n) * p.den / p.num - a * p.den / p.num

/-- A timer-high write: the only operations that load a length counter (41_pulse.md R167, 42_triangle.md R194). -/
def isTimerHigh : Instr → Bool
  | .wrP1Thi _ => true
  | .wrP2Thi _ => true
  | .wrTriThi _ => true
  | _ => false

/-- A frame-counter write that enables the interrupt (40_coordinator.md R109). -/
def enablesIrq : Instr → Bool
  | .wrFrameCtrl v => !v.getLsbD 6
  | _ => false

/-! ## Agreement of two states -/

/-- The block with its three enable flags cleared: what does not depend on them agrees after this. -/
def Block.maskEnables (b : Block) : Block :=
  { b with a := { b.a with enP1 := false, enP2 := false, enTri := false } }

/-- The block with pulse channel 1 replaced by its reset value: all but that channel. -/
def Block.maskP1 (b : Block) : Block := { b with p1 := Pulse.reset }

/-- The two pulse channels and their enable flags exchanged (10_state.md R27). -/
def Block.swapPulses (b : Block) : Block :=
  { b with
    a := { b.a with enP1 := b.a.enP2, enP2 := b.a.enP1 }
    p1 := b.p2
    p2 := b.p1 }

/-- The state with its pulse channels exchanged. -/
def State.swapPulses (s : State) : State := { s with blk := s.blk.swapPulses }

/-- The operations that write `P[1]`, and no other part of the block (41_pulse.md R141). -/
def writesP1 : Instr → Bool
  | .wrP1Ctrl _ => true
  | .wrP1Sweep _ => true
  | .wrP1Tlo _ => true
  | .wrP1Thi _ => true
  | _ => false

end Sys2Proof.Machine
end

