-- ==== Sys2Proof/Certificates/Slice0/Obligations.lean ====
section
/-! DEFINITION. The statements for the provers. Each formalises the rules its docstring names. -/

open Sys2Proof Sys2Proof.Machine

/-! ## The transaction word -/

/-- 30_encoding.md R70, R71, R73, R90: reading back the word written for any operation gives that operation. The
word is the spec's own (its decision D2). -/
def Obligations.DecodeOfEncodeIsIdentity : Prop :=
  ∀ i : Instr, i.wf = true → decode (encode i) = .ok i

/-- 30_encoding.md R72, R74: a word that spells an operation is that operation's only word. The word is the spec's own
(its decision D2). -/
def Obligations.EncodeOfDecodeIsIdentity : Prop :=
  ∀ (w : TWord) (i : Instr), decode w = .ok i → i.wf = true ∧ encode i = w

/-- 30_encoding.md R72, R91: a word is illegal exactly when a reserved field of it is not zero; the machine then
has no step (the spec's own decision D20). -/
def Obligations.ReservedFieldsMakeTheOnlyIllegalWords : Prop :=
  ∀ w : TWord,
    ((∃ why, decode w = .error why) ↔
      ((w.extractLsb' 24 2 = 0b00#2 ∨ w.extractLsb' 24 2 = 0b11#2) ∧
          (w.extractLsb' 8 16 ≠ 0x0000#16 ∨ w.extractLsb' 0 8 ≠ 0x00#8)) ∨
        (w.extractLsb' 24 2 = 0b10#2 ∧ w.extractLsb' 0 8 ≠ 0x00#8)) ∧
    (∀ (why : IllegalWord) (s : State) (ready : Bool) (rest : List HostEvent),
      decode w = .error why → s.cfg.Legal → s.pending = .operation w ready :: rest →
      step s = .refused (.illegalWord why))

/-- 30_encoding.md R90: the eighteen rows of the operation map, the two rows of lowest priority last (the spec's own
decision D2). -/
def Obligations.OperationMapRowsDecode : Prop :=
  ∀ w : TWord,
    (w &&& 0x3FFFFFF#26 = 0x0000000#26 → decode w = .ok .adv) ∧
    (w &&& 0x3FFFF00#26 = 0x1400000#26 → decode w = .ok (.wrP1Ctrl (w.extractLsb' 0 8))) ∧
    (w &&& 0x3FFFF00#26 = 0x1400100#26 → decode w = .ok (.wrP1Sweep (w.extractLsb' 0 8))) ∧
    (w &&& 0x3FFFF00#26 = 0x1400200#26 → decode w = .ok (.wrP1Tlo (w.extractLsb' 0 8))) ∧
    (w &&& 0x3FFFF00#26 = 0x1400300#26 → decode w = .ok (.wrP1Thi (w.extractLsb' 0 8))) ∧
    (w &&& 0x3FFFF00#26 = 0x1400400#26 → decode w = .ok (.wrP2Ctrl (w.extractLsb' 0 8))) ∧
    (w &&& 0x3FFFF00#26 = 0x1400500#26 → decode w = .ok (.wrP2Sweep (w.extractLsb' 0 8))) ∧
    (w &&& 0x3FFFF00#26 = 0x1400600#26 → decode w = .ok (.wrP2Tlo (w.extractLsb' 0 8))) ∧
    (w &&& 0x3FFFF00#26 = 0x1400700#26 → decode w = .ok (.wrP2Thi (w.extractLsb' 0 8))) ∧
    (w &&& 0x3FFFF00#26 = 0x1400800#26 → decode w = .ok (.wrTriCtrl (w.extractLsb' 0 8))) ∧
    (w &&& 0x3FFFF00#26 = 0x1400A00#26 → decode w = .ok (.wrTriTlo (w.extractLsb' 0 8))) ∧
    (w &&& 0x3FFFF00#26 = 0x1400B00#26 → decode w = .ok (.wrTriThi (w.extractLsb' 0 8))) ∧
    (w &&& 0x3FFFF00#26 = 0x1401500#26 → decode w = .ok (.wrApuEnable (w.extractLsb' 0 8))) ∧
    (w &&& 0x3FFFF00#26 = 0x1401700#26 → decode w = .ok (.wrFrameCtrl (w.extractLsb' 0 8))) ∧
    (w &&& 0x3FFFFFF#26 = 0x2401500#26 → decode w = .ok .rdStatus) ∧
    (w &&& 0x3FFFFFF#26 = 0x3000000#26 → decode w = .ok .rst) ∧
    (w &&& 0x3000000#26 = 0x1000000#26 → w.extractLsb' 8 16 ∉ mappedWriteAddrs →
      decode w = .ok (.wrUnmapped (w.extractLsb' 8 16) (w.extractLsb' 0 8))) ∧
    (w &&& 0x30000FF#26 = 0x2000000#26 → w.extractLsb' 8 16 ≠ 0x4015#16 →
      decode w = .ok (.rdOther (w.extractLsb' 8 16)))

/-- 30_encoding.md R92: the encoding examples, and the general form of a `WR` word, each read and written (the spec
derives them from R70 and R71, its decision D2). -/
def Obligations.EncodingExamplesDecode : Prop :=
  decode 0x14000BF#26 = .ok (.wrP1Ctrl 0xBF) ∧ encode (.wrP1Ctrl 0xBF) = 0x14000BF#26 ∧
  decode 0x1400309#26 = .ok (.wrP1Thi 0x09) ∧ encode (.wrP1Thi 0x09) = 0x1400309#26 ∧
  decode 0x1401505#26 = .ok (.wrApuEnable 0x05) ∧ encode (.wrApuEnable 0x05) = 0x1401505#26 ∧
  decode 0x2401500#26 = .ok .rdStatus ∧ encode .rdStatus = 0x2401500#26 ∧
  decode 0x0000000#26 = .ok .adv ∧ encode .adv = 0x0000000#26 ∧
  decode 0x3000000#26 = .ok .rst ∧ encode .rst = 0x3000000#26 ∧
  ∀ (addr : Addr) (v : Byte),
    decode (0x1000000#26 ||| addr.setWidth 26 <<< 8 ||| v.setWidth 26) = .ok (decodeWrite addr v) ∧
    encode (decodeWrite addr v) = 0x1000000#26 ||| addr.setWidth 26 <<< 8 ||| v.setWidth 26

/-! ## The step -/

/-- 00_scope.md R15, 20_memory.md R67, 30_encoding.md R94: a step runs the operation the host presented first and takes
it off the host's list, which is the model's choice (log 2). The sink is ready only if one is attached: 40_coordinator.md
R118, the spec's own decision D15, held by the model as an input of each operation (log 5). -/
def Obligations.StepRunsTheFirstPresentedOperation : Prop :=
  ∀ (s : State) (w : TWord) (ready : Bool) (rest : List HostEvent) (i : Instr),
    s.cfg.Legal → s.pending = .operation w ready :: rest → decode w = .ok i →
    step s = exec i { s with pending := rest, sinkReady := s.sinkAttached && ready } ∧
    ∀ t, step s = .next t → t.pending = rest

/-- The model's choice (log 2): a word put in front of the host's list, as a number of 32 bits (log 14), is the
operation the next step runs. The sink is ready only if one is attached (40_coordinator.md R118, the spec's own decision
D15, log 5). -/
def Obligations.PlacedWordIsTheNextOperation : Prop :=
  ∀ (s : State) (i : Instr), s.cfg.Legal → i.wf = true →
    step (s.withFetchWord 32 (encode i).toNat) =
      exec i { s with sinkReady := s.sinkAttached && s.sinkReady }

/-- 00_scope.md R11: a configuration with a period below 1 is refused; in a legal one each advance passes at most one
frame period and one sample period, and exactly then its one frame clock moves the step index once and its one sample
is offered (the spec marks the rule as derived from R101). -/
def Obligations.PeriodsBelowOneAreRefusedAndEventsFireOncePerAdvance : Prop :=
  (∀ s : State,
    (s.cfg.framePeriod.num < s.cfg.framePeriod.den ∨ s.cfg.samplePeriod.num < s.cfg.samplePeriod.den) →
    step s = .refused .configOutsideSpec) ∧
  (∀ (p : Ratio) (c : Nat), p.AtLeastOne →
    periodsPassed p (c + 1) = periodsPassed p c + if crosses c p = true then 1 else 0) ∧
  (∀ s : State, s.cfg.Legal → ∃ t, exec .adv s = .next t ∧
    t.blk.a.frameStep =
      (if crosses s.blk.a.cycle s.cfg.framePeriod = true then
        stepAfter s.blk.a.frameMode s.blk.a.frameStep else s.blk.a.frameStep) ∧
    periodsPassed s.cfg.framePeriod t.blk.a.cycle =
      periodsPassed s.cfg.framePeriod s.blk.a.cycle +
        (if t.blk.a.frameStep ≠ s.blk.a.frameStep then 1 else 0) ∧
    periodsPassed s.cfg.samplePeriod t.blk.a.cycle =
      periodsPassed s.cfg.samplePeriod s.blk.a.cycle + (if t.out.sampleValid = true then 1 else 0))

/-- 00_scope.md R11, R15, 30_encoding.md R72, 60_exceptions.md R220: the machine has a next state exactly when its
configuration is legal and the word presented, if any, spells an operation. Legal is the model's: the spec asks it of
the periods (R11), the model of the width (log 7) and of the length table (log 11) too. With nothing presented the step
is the model's idle step (log 3), with attachSink first the environment's (log 5). -/
def Obligations.StepCompletesUnlessConfigurationOrWordIsRefused : Prop :=
  ∀ s : State,
    (∃ t, step s = .next t) ↔
      s.cfg.Legal ∧
        ∀ w ready rest, s.pending = .operation w ready :: rest → ∃ i, decode w = .ok i

/-- The model's choice (log 3, log 5): with nothing presented the block holds and its ports are 0, and attaching a
sink is no operation of the block (30_encoding.md R71). -/
def Obligations.IdleAndAttachLeaveTheBlock : Prop :=
  ∀ s : State, s.cfg.Legal →
    (s.pending = [] → step s = .next (s.withBlock s.blk)) ∧
    (∀ rest, s.pending = .attachSink :: rest →
      step s = .next { s.withBlock s.blk with sinkAttached := true, pending := rest })

/-- 60_exceptions.md R220, 00_scope.md R15, 10_state.md R18: every operation completes in every state; none changes
the configuration, the host's list or the sink's side. -/
def Obligations.EveryOperationCompletes : Prop :=
  ∀ (i : Instr) (s : State), ∃ t, exec i s = .next t ∧
    t.cfg = s.cfg ∧ t.pending = s.pending ∧ t.sinkReady = s.sinkReady ∧ t.sinkAttached = s.sinkAttached

/-! ## Reset -/

/-- 70_reset_and_hazards.md R240 (and 40_coordinator.md R122): after `RST`, and at power-on, every field is 0 but the
enable flags, which take `RESET_ENABLE_MASK`, whatever it is (its default is the model's choice, log 6). The values field
by field (4-step mode, step 0, the interrupt disabled, the mask for the enables) are the spec's own decision D16
(10_state.md R23, R25, R26, 70_reset_and_hazards.md R241, R242; log 13). That every port is 0 is 30_encoding.md R94, which
State records (log 4). -/
def Obligations.ResetSetsEveryFieldToItsResetValue : Prop :=
  (∀ s : State, exec .rst s = .next (s.withBlock (clearedBlock s.cfg.resetEnableMask))) ∧
  State.reset.blk = clearedBlock State.reset.cfg.resetEnableMask

/-! ## Register writes and reads

`State.withBlock` leaves 0 on every port, which is 30_encoding.md R94 (the spec's own decisions D1, D14, D15, log 13); that
State records the ports is the model's choice (log 4). -/

/-- 30_encoding.md R77 (and 41_pulse.md R144, R145): the pulse control write's addresses and fields, and nothing
else changes. -/
def Obligations.PulseControlWriteSetsItsFields : Prop :=
  ∀ (v : Byte) (s : State),
    decodeWrite 0x4000#16 v = .wrP1Ctrl v ∧ decodeWrite 0x4004#16 v = .wrP2Ctrl v ∧
    exec (.wrP1Ctrl v) s = .next (s.withBlock { s.blk with p1 := s.blk.p1.controlled v }) ∧
    exec (.wrP2Ctrl v) s = .next (s.withBlock { s.blk with p2 := s.blk.p2.controlled v })

/-- 30_encoding.md R78 (and 41_pulse.md R146, R147): the sweep write's addresses and fields, and nothing else
changes. -/
def Obligations.PulseSweepWriteSetsItsFields : Prop :=
  ∀ (v : Byte) (s : State),
    decodeWrite 0x4001#16 v = .wrP1Sweep v ∧ decodeWrite 0x4005#16 v = .wrP2Sweep v ∧
    exec (.wrP1Sweep v) s = .next (s.withBlock { s.blk with p1 := s.blk.p1.swept v }) ∧
    exec (.wrP2Sweep v) s = .next (s.withBlock { s.blk with p2 := s.blk.p2.swept v })

/-- 30_encoding.md R79, R82, 41_pulse.md R148, R149, 42_triangle.md R193: a timer-low write replaces bits 7:0 of the
period, keeps every other bit of its `PERIOD_W`, and changes nothing else (which bits stay is the spec's own decision
D5). -/
def Obligations.TimerLowWriteReplacesTheLowByteOnly : Prop :=
  ∀ (v : Byte) (s : State), 8 ≤ s.cfg.periodW →
    decodeWrite 0x4002#16 v = .wrP1Tlo v ∧ decodeWrite 0x4006#16 v = .wrP2Tlo v ∧
    decodeWrite 0x400A#16 v = .wrTriTlo v ∧
    (s.blk.p1.timerPeriod < 2 ^ s.cfg.periodW →
      ∃ q, exec (.wrP1Tlo v) s =
          .next (s.withBlock { s.blk with p1 := { s.blk.p1 with timerPeriod := q } }) ∧
        ∀ k, q.testBit k = if k < 8 then v.getLsbD k else s.blk.p1.timerPeriod.testBit k) ∧
    (s.blk.p2.timerPeriod < 2 ^ s.cfg.periodW →
      ∃ q, exec (.wrP2Tlo v) s =
          .next (s.withBlock { s.blk with p2 := { s.blk.p2 with timerPeriod := q } }) ∧
        ∀ k, q.testBit k = if k < 8 then v.getLsbD k else s.blk.p2.timerPeriod.testBit k) ∧
    (s.blk.t.timerPeriod < 2 ^ s.cfg.periodW →
      ∃ q, exec (.wrTriTlo v) s =
          .next (s.withBlock { s.blk with t := { s.blk.t with timerPeriod := q } }) ∧
        ∀ k, q.testBit k = if k < 8 then v.getLsbD k else s.blk.t.timerPeriod.testBit k)

/-- 30_encoding.md R80, 41_pulse.md R150, R151: the pulse timer-high write loads the length counter, assembles the
period with every bit above 10 clear (the spec's own decision D5), restarts the timer from it, resets the duty step and
sets `env_start`. -/
def Obligations.PulseTimerHighWriteRestartsTheChannel : Prop :=
  ∀ (v : Byte) (s : State),
    decodeWrite 0x4003#16 v = .wrP1Thi v ∧ decodeWrite 0x4007#16 v = .wrP2Thi v ∧
    exec (.wrP1Thi v) s = .next (s.withBlock { s.blk with p1 := s.blk.p1.restarted s.cfg v }) ∧
    exec (.wrP2Thi v) s = .next (s.withBlock { s.blk with p2 := s.blk.p2.restarted s.cfg v })

/-- 30_encoding.md R81 (and 42_triangle.md R192): the triangle control write's fields, and nothing else changes. -/
def Obligations.TriangleControlWriteSetsItsFields : Prop :=
  ∀ (v : Byte) (s : State),
    decodeWrite 0x4008#16 v = .wrTriCtrl v ∧
    exec (.wrTriCtrl v) s = .next (s.withBlock { s.blk with
      t := { s.blk.t with lengthEnabled := !v.getLsbD 7, linPeriod := v.extractLsb' 0 7 } })

/-- 30_encoding.md R83, 42_triangle.md R194: the triangle timer-high write's fields (bits above 10 clear: the spec's
own decision D5); it restarts neither the timer nor the step (its decision D11). -/
def Obligations.TriangleTimerHighWriteSetsItsFields : Prop :=
  ∀ (v : Byte) (s : State),
    decodeWrite 0x400B#16 v = .wrTriThi v ∧
    exec (.wrTriThi v) s = .next (s.withBlock { s.blk with
      t := { s.blk.t with
        lengthValue := s.cfg.lengthTable.get (v.extractLsb' 3 5).toFin
        timerPeriod := v.toNat % 8 * 256 + s.blk.t.timerPeriod % 256
        linReload := true } })

/-- 30_encoding.md R84 (and 40_coordinator.md R108): the channel-enable write sets the three flags and nothing else. -/
def Obligations.ChannelEnableWriteSetsTheThreeFlags : Prop :=
  ∀ (v : Byte) (s : State),
    decodeWrite 0x4015#16 v = .wrApuEnable v ∧
    exec (.wrApuEnable v) s = .next (s.withBlock { s.blk with
      a := { s.blk.a with enP1 := v.getLsbD 0, enP2 := v.getLsbD 1, enTri := v.getLsbD 2 } })

/-- 30_encoding.md R86, 40_coordinator.md R109: the frame-counter write sets the mode and the interrupt enable and
nothing else; in particular it clocks nothing (00_scope.md R6) and keeps the step index (10_state.md R24, R109: the
spec's own decision D9, log 13). -/
def Obligations.FrameCounterWriteSetsModeAndInterruptEnable : Prop :=
  ∀ (v : Byte) (s : State),
    decodeWrite 0x4017#16 v = .wrFrameCtrl v ∧
    (v.getLsbD 7 = false →
      exec (.wrFrameCtrl v) s = .next (s.withBlock { s.blk with
        a := { s.blk.a with frameMode := .fourStep, irqEnabled := !v.getLsbD 6 } })) ∧
    (v.getLsbD 7 = true →
      exec (.wrFrameCtrl v) s = .next (s.withBlock { s.blk with
        a := { s.blk.a with frameMode := .fiveStep, irqEnabled := !v.getLsbD 6 } }))

/-- 20_memory.md R61, 30_encoding.md R85 (and 40_coordinator.md R119, R120, R121): a write at any address but the
thirteen write targets changes no state; a read at any address, the status address among them, returns 0 and changes
none. That no other address reaches a register is R61's full decode, the spec's own decision D3 (log 13); that the write
targets are these thirteen is the model's reading of R60 and R90 (log 18, DEDUCED), where 30_encoding.md R73 counts
fourteen. The read data on the port is R94, which State records (log 4). -/
def Obligations.ReadsAndUnmappedWritesLeaveTheBlock : Prop :=
  ∀ (addr : Addr) (v : Byte) (s : State),
    (s.withBlock s.blk).out.rdata = 0x00#8 ∧
    exec .rdStatus s = .next (s.withBlock s.blk) ∧
    exec (.rdOther addr) s = .next (s.withBlock s.blk) ∧
    exec (.wrUnmapped addr v) s = .next (s.withBlock s.blk) ∧
    exec (decodeRead addr) s = .next (s.withBlock s.blk) ∧
    decodeRead 0x4015#16 = .rdStatus ∧
    (decodeWrite addr v = .wrUnmapped addr v ↔
      addr ∉ [0x4000#16, 0x4001#16, 0x4002#16, 0x4003#16, 0x4004#16, 0x4005#16, 0x4006#16, 0x4007#16,
        0x4008#16, 0x400A#16, 0x400B#16, 0x4015#16, 0x4017#16])

/-- 20_memory.md R65: any number of reads at any addresses leave the state unchanged, and each returns 0. -/
def Obligations.AnyNumberOfReadsChangesNothing : Prop :=
  ∀ (is : List Instr) (s : State),
    (∀ i ∈ is, i = .rdStatus ∨ ∃ addr, i = .rdOther addr) →
    ∃ t, execAll is s = .next t ∧ t.blk = s.blk ∧ (is ≠ [] → t.out.rdata = 0#8)

/-- 30_encoding.md R76: the data bits two registers ignore have no effect; the other bits of those two, and every data
bit of the other eleven, have one (the spec derives the rule from R84 and R86). -/
def Obligations.OnlyTheIgnoredDataBitsHaveNoEffect : Prop :=
  (∀ (v v' : Byte) (s : State),
    (v.extractLsb' 0 3 = v'.extractLsb' 0 3 → exec (.wrApuEnable v) s = exec (.wrApuEnable v') s) ∧
    (v.extractLsb' 6 2 = v'.extractLsb' 6 2 → exec (.wrFrameCtrl v) s = exec (.wrFrameCtrl v') s)) ∧
  (∀ mk ∈ ([.wrP1Ctrl, .wrP1Sweep, .wrP1Tlo, .wrP1Thi, .wrP2Ctrl, .wrP2Sweep, .wrP2Tlo, .wrP2Thi,
      .wrTriCtrl, .wrTriTlo, .wrTriThi] : List (Byte → Instr)),
    ∀ k < 8, ∃ (v : Byte) (s t t' : State),
      exec (mk v) s = .next t ∧ exec (mk (v ^^^ (1#8 <<< k))) s = .next t' ∧ t.blk ≠ t'.blk) ∧
  (∀ row ∈ ([(.wrApuEnable, 0), (.wrApuEnable, 1), (.wrApuEnable, 2), (.wrFrameCtrl, 6), (.wrFrameCtrl, 7)] :
      List ((Byte → Instr) × Nat)),
    ∀ (v : Byte) (s : State), ∃ t t',
      exec (row.1 v) s = .next t ∧ exec (row.1 (v ^^^ (1#8 <<< row.2))) s = .next t' ∧ t.blk ≠ t'.blk)

/-- 20_memory.md R63: a timer-low and then a timer-high write, at an address and the one above it, assemble the 11-bit
period from any start; that every higher bit is then clear is the spec's own decision D5 (log 13). -/
def Obligations.TwoWritesAssembleThePeriod : Prop :=
  ∀ (lo hi : Byte) (s : State),
    (∃ t, execAll [decodeWrite 0x4002#16 lo, decodeWrite 0x4003#16 hi] s = .next t ∧
      t.blk.p1.timerPeriod = hi.toNat % 8 * 256 + lo.toNat) ∧
    (∃ t, execAll [decodeWrite 0x4006#16 lo, decodeWrite 0x4007#16 hi] s = .next t ∧
      t.blk.p2.timerPeriod = hi.toNat % 8 * 256 + lo.toNat) ∧
    (∃ t, execAll [decodeWrite 0x400A#16 lo, decodeWrite 0x400B#16 hi] s = .next t ∧
      t.blk.t.timerPeriod = hi.toNat % 8 * 256 + lo.toNat)

/-- 30_encoding.md R89: `SETTIMER` leaves the channel with the period and the length-table entry it names (the
pseudo-instruction is the spec's own, D21; the period's bits above 10 are clear by its decision D5, log 13). -/
def Obligations.SetTimerLeavesPeriodAndLength : Prop :=
  ∀ (period : BitVec 11) (lenidx : BitVec 5) (s : State),
    (∃ t, execAll (expandSetTimer .pulse1 period lenidx) s = .next t ∧
      t.blk.p1.timerPeriod = period.toNat ∧ t.blk.p1.lengthValue = s.cfg.lengthTable.get lenidx.toFin) ∧
    (∃ t, execAll (expandSetTimer .pulse2 period lenidx) s = .next t ∧
      t.blk.p2.timerPeriod = period.toNat ∧ t.blk.p2.lengthValue = s.cfg.lengthTable.get lenidx.toFin) ∧
    (∃ t, execAll (expandSetTimer .triangle period lenidx) s = .next t ∧
      t.blk.t.timerPeriod = period.toNat ∧ t.blk.t.lengthValue = s.cfg.lengthTable.get lenidx.toFin)

/-! ## The advance -/

/-- 40_coordinator.md R100 and the "written by" clauses of 10_state.md: an advance adds 1 to the cycle count and
writes no field that only a register write sets. -/
def Obligations.AdvanceKeepsEveryProgrammedField : Prop :=
  ∀ s : State, ∃ t, exec .adv s = .next t ∧
    t.blk.a.cycle = s.blk.a.cycle + 1 ∧ t.blk.a.frameMode = s.blk.a.frameMode ∧
    t.blk.a.irqEnabled = s.blk.a.irqEnabled ∧ t.blk.a.enP1 = s.blk.a.enP1 ∧
    t.blk.a.enP2 = s.blk.a.enP2 ∧ t.blk.a.enTri = s.blk.a.enTri ∧
    s.blk.p1.KeepsProgrammed t.blk.p1 ∧ s.blk.p2.KeepsProgrammed t.blk.p2 ∧
    t.blk.t.timerPeriod = s.blk.t.timerPeriod ∧ t.blk.t.linPeriod = s.blk.t.linPeriod ∧
    t.blk.t.lengthEnabled = s.blk.t.lengthEnabled

/-- 40_coordinator.md R105: within one advance the timers run, then the count is incremented, then the frame clock
runs if its period is crossed, and the sample is taken last (the spec's own decision D10). -/
def Obligations.AdvanceRunsTimersIncrementFrameClockSample : Prop :=
  ∀ s : State,
    ∃ t, exec .adv s = .next t ∧
      (s.FrameEvent → t.blk = s.blk.timedAndCounted.frameClock s.cfg) ∧
      (¬ s.FrameEvent → t.blk = s.blk.timedAndCounted) ∧
      (s.SampleEvent → t.out.sampleValid = true ∧ t.out.sample = t.blk.mix s.cfg) ∧
      (¬ s.SampleEvent → t.out.sampleValid = false)

/-- 41_pulse.md R152, 40_coordinator.md R103: the pulse timers are clocked when the count before the increment is
even (the spec's own decision D18); a counter at 0 reloads and steps the duty sequencer mod 8 (its decision D6). -/
def Obligations.PulseTimersAreClockedOnEvenCycles : Prop :=
  ∀ s : State, ∃ t, exec .adv s = .next t ∧
    (s.blk.a.cycle % 2 = 0 →
      s.blk.p1.TimerClocked t.blk.p1 ∧ s.blk.p2.TimerClocked t.blk.p2) ∧
    (s.blk.a.cycle % 2 = 1 →
      s.blk.p1.TimerHeld t.blk.p1 ∧ s.blk.p2.TimerHeld t.blk.p2)

/-- 42_triangle.md R195, 40_coordinator.md R104: the triangle timer is clocked in every advance; a reload, which is
the clock that finds 0 (the spec's own decision D6), steps the sequencer mod 32 only if the length counter and the
linear counter are both non-zero. -/
def Obligations.TriangleTimerIsClockedEveryAdvance : Prop :=
  ∀ s : State, ∃ t, exec .adv s = .next t ∧
    (s.blk.t.timerCounter = 0 →
      t.blk.t.timerCounter = s.blk.t.timerPeriod ∧
      (s.blk.t.lengthValue ≠ 0#8 ∧ s.blk.t.linValue ≠ 0#7 →
        t.blk.t.step.toNat = (s.blk.t.step.toNat + 1) % 32) ∧
      (¬ (s.blk.t.lengthValue ≠ 0#8 ∧ s.blk.t.linValue ≠ 0#7) → t.blk.t.step = s.blk.t.step)) ∧
    (s.blk.t.timerCounter ≠ 0 →
      t.blk.t.timerCounter = s.blk.t.timerCounter - 1 ∧ t.blk.t.step = s.blk.t.step)

/-- 40_coordinator.md R111, R112, R114: what one frame clock does in each mode at each step. That it acts on the index
and then advances it is R110, the spec's own decision D8; that a quarter clock clocks the linear counter with the
envelopes in 5-step mode is the spec's own derivation in R113 (log 13). -/
def Obligations.FrameClockFollowsItsStepTables : Prop :=
  ∀ (cfg : Config) (b : Block),
    (b.a.frameMode = .fourStep →
      (b.a.frameStep = 0#3 → b.frameClock cfg = b.quarterClocked.atStep 1#3 ∧ b.frameIrq = false) ∧
      (b.a.frameStep = 1#3 →
        b.frameClock cfg = (b.quarterClocked.halfClocked cfg).atStep 2#3 ∧ b.frameIrq = false) ∧
      (b.a.frameStep = 2#3 → b.frameClock cfg = b.quarterClocked.atStep 3#3 ∧ b.frameIrq = false) ∧
      (b.a.frameStep = 3#3 →
        b.frameClock cfg = (b.quarterClocked.halfClocked cfg).atStep 0#3 ∧ b.frameIrq = b.a.irqEnabled)) ∧
    (b.a.frameMode = .fiveStep →
      b.frameIrq = false ∧
      (b.a.frameStep = 0#3 → b.frameClock cfg = (b.quarterClocked.halfClocked cfg).atStep 1#3) ∧
      (b.a.frameStep = 1#3 → b.frameClock cfg = b.quarterClocked.atStep 2#3) ∧
      (b.a.frameStep = 2#3 → b.frameClock cfg = (b.quarterClocked.halfClocked cfg).atStep 3#3) ∧
      (b.a.frameStep = 3#3 → b.frameClock cfg = b.quarterClocked.atStep 4#3) ∧
      (b.a.frameStep = 4#3 → b.frameClock cfg = b.atStep 0#3))

/-- 40_coordinator.md R115: index 4 in 4-step mode arises only by a frame-counter write; a frame clock there does
nothing but set the index to 1 (the spec's own decision D9). -/
def Obligations.IndexFourInFourStepModeOnlyMovesToOne : Prop :=
  (∀ (cfg : Config) (b : Block), b.a.frameMode = .fourStep → b.a.frameStep = 4#3 →
    b.frameClock cfg = { b with a := { b.a with frameStep := 1 } } ∧ b.frameIrq = false) ∧
  (∀ (i : Instr) (s t : State), exec i s = .next t → (∀ v, i ≠ .wrFrameCtrl v) →
    (s.blk.a.frameMode = .fourStep → s.blk.a.frameStep.toNat ≤ 3) →
    (t.blk.a.frameMode = .fourStep → t.blk.a.frameStep.toNat ≤ 3)) ∧
  (∀ (v : Byte) (s t : State), exec (.wrFrameCtrl v) s = .next t → s.blk.a.frameStep ≠ 4#3 →
    t.blk.a.frameStep ≠ 4#3)

/-- 41_pulse.md R155: the envelope clock, on the quarter clocks of an advance and only on them. That a divider acts on
the clock that finds it at 0 is the spec's own decision D7. -/
def Obligations.EnvelopeIsClockedOnQuarterClocks : Prop :=
  ∀ s : State, ∃ t, exec .adv s = .next t ∧
    (s.QuarterEvent → s.blk.p1.EnvClocked t.blk.p1 ∧ s.blk.p2.EnvClocked t.blk.p2) ∧
    (¬ s.QuarterEvent → s.blk.p1.EnvHeld t.blk.p1 ∧ s.blk.p2.EnvHeld t.blk.p2)

/-- 42_triangle.md R197, R198: the linear-counter clock, on the quarter clocks of an advance and only on them; its
reload stays pending while length counting is disabled. That quarter clocks clock it in 5-step mode is the spec's own
derivation in 40_coordinator.md R113, and that the clock acts on the index before advancing it its decision D8 (log 13). -/
def Obligations.LinearCounterIsClockedOnQuarterClocks : Prop :=
  ∀ s : State, ∃ t, exec .adv s = .next t ∧
    (s.QuarterEvent →
      (s.blk.t.linReload = true → t.blk.t.linValue = s.blk.t.linPeriod) ∧
      (s.blk.t.linReload = false → t.blk.t.linValue.toNat = s.blk.t.linValue.toNat - 1) ∧
      (s.blk.t.lengthEnabled = true → t.blk.t.linReload = false) ∧
      (s.blk.t.lengthEnabled = false → t.blk.t.linReload = s.blk.t.linReload)) ∧
    (¬ s.QuarterEvent →
      t.blk.t.linValue = s.blk.t.linValue ∧ t.blk.t.linReload = s.blk.t.linReload)

/-- 41_pulse.md R159, R164: the sweep clock, on the half clocks of an advance and only on them, and the period it
leaves. That a divider acts on the clock that finds it at 0 is the spec's own decision D7, the wrap its decision D4. -/
def Obligations.SweepIsClockedOnHalfClocks : Prop :=
  ∀ s : State, ∃ t, exec .adv s = .next t ∧
    (s.HalfEvent →
      s.blk.p1.SweepClocked s.cfg.periodW t.blk.p1 ∧ s.blk.p2.SweepClocked s.cfg.periodW t.blk.p2) ∧
    (¬ s.HalfEvent → s.blk.p1.SweepHeld t.blk.p1 ∧ s.blk.p2.SweepHeld t.blk.p2)

/-- 41_pulse.md R166, 42_triangle.md R199: the three length counters, on the half clocks of an advance and only on
them, count down to 0 where length counting is enabled. Which advances run a half clock rests on 40_coordinator.md R110,
where the clock acts on the index before advancing it: the spec's own decision D8 (log 13). -/
def Obligations.LengthCountersAreClockedOnHalfClocks : Prop :=
  ∀ s : State, ∃ t, exec .adv s = .next t ∧
    (s.HalfEvent →
      LengthClocked s.blk.p1.lengthEnabled s.blk.p1.lengthValue t.blk.p1.lengthValue ∧
      LengthClocked s.blk.p2.lengthEnabled s.blk.p2.lengthValue t.blk.p2.lengthValue ∧
      LengthClocked s.blk.t.lengthEnabled s.blk.t.lengthValue t.blk.t.lengthValue) ∧
    (¬ s.HalfEvent →
      t.blk.p1.lengthValue = s.blk.p1.lengthValue ∧ t.blk.p2.lengthValue = s.blk.p2.lengthValue ∧
      t.blk.t.lengthValue = s.blk.t.lengthValue)

/-- 40_coordinator.md R117, 41_pulse.md R168, R169, 42_triangle.md R190, R200: a sample crossing offers the sum of the
enabled channels' outputs divided by 3, read after the advance's frame clock (R105, the spec's own decision D10). The
sink takes it if it is ready (R118, decision D15, log 5), which State records (log 4). Without a crossing nothing is
offered (R106, decision D15); the value on the port `sample` there is 0 by the model's choice alone (log 22). -/
def Obligations.SampleIsTheMixedOutputOfEnabledChannels : Prop :=
  ∀ s : State, ∃ t, exec .adv s = .next t ∧
    (s.SampleEvent →
      t.out.sampleValid = true ∧ t.out.sample.toNat = mixedLevels s.cfg t.blk / 3 ∧
      mixedLevels s.cfg t.blk ≤ 45 ∧
      (s.sinkReady = true → t.delivered = some t.out.sample) ∧
      (s.sinkReady = false → t.delivered = none)) ∧
    (¬ s.SampleEvent → t.out.sampleValid = false ∧ t.out.sample = 0#4 ∧ t.delivered = none)

/-- 60_exceptions.md R223, R224: the interrupt line is high after exactly the advances whose frame clock runs step 3
of 4-step mode with the interrupt enabled, whatever the channel enables hold, and after no other operation (a line held
for one advance is the spec's own decision D14). -/
def Obligations.InterruptRisesOnlyAtStepThreeOfFourStepMode : Prop :=
  (∀ s : State, ∃ t, exec .adv s = .next t ∧
    (t.out.irq = true ↔
      s.FrameEvent ∧ s.blk.a.frameMode = .fourStep ∧ s.blk.a.frameStep = 3#3 ∧
        s.blk.a.irqEnabled = true)) ∧
  (∀ (i : Instr) (s t : State), i ≠ .adv → exec i s = .next t → t.out.irq = false)

/-- 30_encoding.md R94, the spec's own decisions D1, D14 and D15: the interrupt and sample ports are 0 for every
operation but `ADV`, and the read data for every operation (40_coordinator.md R119, R120: a read returns 0). That State
records the ports of the last operation is the model's choice (log 4). -/
def Obligations.PortsAreZeroOutsideTheirOperation : Prop :=
  ∀ (i : Instr) (s t : State), exec i s = .next t →
    t.out.rdata = 0#8 ∧
    (i ≠ .adv →
      t.out.irq = false ∧ t.out.sampleValid = false ∧ t.out.sample = 0#4 ∧ t.delivered = none)

/-- 10_state.md R21, R22, 40_coordinator.md R107: only `ADV` and `RST` change the cycle count. -/
def Obligations.OnlyAdvanceAndResetChangeTheCycleCount : Prop :=
  ∀ (i : Instr) (s t : State), exec i s = .next t →
    (i = .adv → t.blk.a.cycle = s.blk.a.cycle + 1) ∧
    (i = .rst → t.blk.a.cycle = 0) ∧
    (i ≠ .adv → i ≠ .rst → t.blk.a.cycle = s.blk.a.cycle)

/-- 41_pulse.md R167: a pulse's length value is loaded by its own timer-high write (R150), counted down by the length
clock of an advance's half clock (R166), whatever the enable flags hold and never below 0, set to 0 by reset
(70_reset_and_hazards.md R240), and changed by nothing else (the spec derives R167 from R150 and R166). Which index a half
clock runs at is 40_coordinator.md R110 to R112, the spec's own decision D8 (log 13). -/
def Obligations.PulseLengthValuesChangeOnlyByLoadClockAndReset : Prop :=
  ∀ (i : Instr) (s t : State), exec i s = .next t →
    (∀ v, i = .wrP1Thi v → t.blk.p1.lengthValue = s.cfg.lengthTable.get (v.extractLsb' 3 5).toFin) ∧
    (∀ v, i = .wrP2Thi v → t.blk.p2.lengthValue = s.cfg.lengthTable.get (v.extractLsb' 3 5).toFin) ∧
    (i = .rst → t.blk.p1.lengthValue = 0#8 ∧ t.blk.p2.lengthValue = 0#8) ∧
    (i = .adv → s.HalfEvent →
      LengthClocked s.blk.p1.lengthEnabled s.blk.p1.lengthValue t.blk.p1.lengthValue ∧
      LengthClocked s.blk.p2.lengthEnabled s.blk.p2.lengthValue t.blk.p2.lengthValue) ∧
    (i ≠ .rst → ¬ (i = .adv ∧ s.HalfEvent) →
      ((∀ v, i ≠ .wrP1Thi v) → t.blk.p1.lengthValue = s.blk.p1.lengthValue) ∧
      ((∀ v, i ≠ .wrP2Thi v) → t.blk.p2.lengthValue = s.blk.p2.lengthValue))

/-- 41_pulse.md R165: where the sweep sum wraps (the spec's own decision D4), and the two results at shift 0. -/
def Obligations.SweepSumWrapsAtThePeriodWidth : Prop :=
  ∀ (w : Nat) (p : Pulse),
    (p.sweepNegate = false → p.sweepTarget w < 2 ^ w ∧
      p.sweepTarget w = (p.timerPeriod + p.timerPeriod / 2 ^ p.sweepShift.toNat) % 2 ^ w) ∧
    (12 ≤ w → p.sweepNegate = false → p.timerPeriod ≤ 0x7FF →
      p.sweepTarget w = p.timerPeriod + p.timerPeriod / 2 ^ p.sweepShift.toNat ∧ p.sweepTarget w ≤ 0xFFE) ∧
    (p.sweepShift = 0#3 → p.sweepNegate = true → p.sweepTarget w = 0) ∧
    (p.sweepShift = 0#3 → p.sweepNegate = false → p.sweepTarget w = 2 * p.timerPeriod % 2 ^ w)

/-! ## Invariants -/

/-- The invariant (Safety.lean, State.Inv) holds at reset. The block's fields are 0 or an enable flag
(70_reset_and_hazards.md R240), which 10_state.md R24, R30, R31, R33, R46, R47 and R54 allow. The rest is the model's: what
it calls a legal configuration (log 7, log 11, beyond 00_scope.md R11), the PRESUMED default periods and length table
(log 8, log 10), and the record of the ports and of the sink at reset (log 4, log 5; the port `sample` log 22). -/
def Obligations.ResetMeetsTheInvariant : Prop := State.reset.Inv

/-- 10_state.md R24, R30, R31, R33, R46, R47, R54, 60_exceptions.md R223: every step keeps the invariant. Its clause that
no sample value stands without an offer rests on the model's choice of log 22, its clauses on what the sink took on
log 4 and log 5, and the legal configuration on log 7 and log 11. -/
def Obligations.EveryStepKeepsTheInvariant : Prop :=
  ∀ s t : State, s.Inv → step s = .next t → t.Inv

/-! ## Runs -/

/-- 40_coordinator.md R102: over any run of advances the frame clocks and the samples are counted exactly by the
floors, at any cycle count (the spec derives the count from R101). -/
def Obligations.EventsOverARunAreCountedByFloors : Prop :=
  ∀ (n : Nat) (s : State), s.cfg.Legal →
    frameClocks n s = crossingsOver s.cfg.framePeriod s.blk.a.cycle n ∧
    samplesOffered n s = crossingsOver s.cfg.samplePeriod s.blk.a.cycle n

/-- 70_reset_and_hazards.md R249, which the spec derives: `ceil(FRAME_PERIOD)` advances hold a frame clock. R249 says
this of a quarter clock, which is so at the indexes 0 to 3 (the next two statements); log 20 (DEDUCED) narrows it to the
frame clock, since at index 4 the frame clock runs no quarter clock (40_coordinator.md R112, R115). -/
def Obligations.AFrameClockComesWithinOnePeriod : Prop :=
  ∀ s : State, s.cfg.Legal →
    1 ≤ frameClocks ((s.cfg.framePeriod.num + s.cfg.framePeriod.den - 1) / s.cfg.framePeriod.den) s

/-- 70_reset_and_hazards.md R249, which the spec derives: at an index of 0 to 3, a pending `env_start` of either pulse
is consumed, and a pending `lin_reload` takes effect and is cleared where length counting is enabled, within
`ceil(FRAME_PERIOD)` advances. At index 4 it waits longer (log 20). -/
def Obligations.PendingStartsAreConsumedWithinOnePeriod : Prop :=
  ∀ s : State, s.cfg.Legal → s.blk.a.frameStep.toNat ≤ 3 →
    ∃ t, execAll (expandAdv
        ((s.cfg.framePeriod.num + s.cfg.framePeriod.den - 1) / s.cfg.framePeriod.den)) s = .next t ∧
      t.blk.p1.envStart = false ∧ t.blk.p2.envStart = false ∧
      (s.blk.t.lengthEnabled = true → t.blk.t.linReload = false)

/-- 70_reset_and_hazards.md R249, which the spec derives, in frame clocks, from every step index. `env_start` and
`lin_reload` wait for the next quarter clock, which is the next frame clock at the indexes 0 to 3 and the one after it at
index 4 (40_coordinator.md R112, R115; log 20). `sweep_reload` waits, in each mode and at each index of the list, exactly
the number of frame clocks the list gives for it: at most two in 4-step mode (index 4 is R115, the spec's own decision D9)
and at most three in 5-step mode, from step 3 through step 4 to step 0. That a clock acts on the index and then advances
it is the spec's own decision D8 (log 13). -/
def Obligations.PendingRequestsWaitForTheirClocks : Prop :=
  ∀ (cfg : Config) (b : Block),
    (b.a.frameStep.toNat ≤ 3 →
      (b.frameClock cfg).p1.envStart = false ∧ (b.frameClock cfg).p2.envStart = false ∧
      (b.t.linReload = true → (b.frameClock cfg).t.linValue = b.t.linPeriod)) ∧
    (b.a.frameStep = 4#3 →
      (b.frameClock cfg).p1.envStart = b.p1.envStart ∧ (b.frameClock cfg).p2.envStart = b.p2.envStart ∧
      (b.frameClock cfg).t = b.t ∧
      ((b.frameClock cfg).frameClock cfg).p1.envStart = false ∧
      ((b.frameClock cfg).frameClock cfg).p2.envStart = false ∧
      (b.t.linReload = true → ((b.frameClock cfg).frameClock cfg).t.linValue = b.t.linPeriod)) ∧
    (∀ wait ∈ ([(.fourStep, 0, 2), (.fourStep, 1, 1), (.fourStep, 2, 2), (.fourStep, 3, 1), (.fourStep, 4, 2),
        (.fiveStep, 0, 1), (.fiveStep, 1, 2), (.fiveStep, 2, 1), (.fiveStep, 3, 3), (.fiveStep, 4, 2)] :
        List (FrameMode × BitVec 3 × Nat)),
      b.a.frameMode = wait.1 → b.a.frameStep = wait.2.1 →
      (∀ k < wait.2.2,
        ((Block.frameClock cfg)^[k] b).p1.sweepReload = b.p1.sweepReload ∧
        ((Block.frameClock cfg)^[k] b).p2.sweepReload = b.p2.sweepReload) ∧
      ((Block.frameClock cfg)^[wait.2.2] b).p1.sweepReload = false ∧
      ((Block.frameClock cfg)^[wait.2.2] b).p2.sweepReload = false)

/-- 60_exceptions.md R226: with the interrupt enabled in 4-step mode one interrupt comes of every four frame clocks,
counted from the step index the run starts at (the spec derives it from R111). -/
def Obligations.OneInterruptPerFourFrameClocks : Prop :=
  ∀ (n : Nat) (s : State), s.cfg.Legal → s.blk.a.frameMode = .fourStep → s.blk.a.irqEnabled = true →
    s.blk.a.frameStep.toNat ≤ 3 →
    interrupts n s =
      (s.blk.a.frameStep.toNat + crossingsOver s.cfg.framePeriod s.blk.a.cycle n) / 4

/-- 70_reset_and_hazards.md R256: the k-th crossing of a period P is in the advance that makes the count
`ceil(k * P)` (which the spec derives from R101), with the spec's cycle numbers for the default periods (PRESUMED by
the spec, log 10). -/
def Obligations.CrossingsFallAtTheCeilingsOfMultiples : Prop :=
  (∀ (p : Ratio) (c k : Nat), p.AtLeastOne → 1 ≤ k →
    (c + 1 = (k * p.num + p.den - 1) / p.den ↔
      crosses c p = true ∧ (c + 1) * p.den / p.num = k)) ∧
  (∀ c ∈ [7458, 14915, 22373, 29830, 37287], crosses (c - 1) State.reset.cfg.framePeriod = true) ∧
  (∀ c ∈ [41, 82, 122, 163, 203, 244, 285], crosses (c - 1) State.reset.cfg.samplePeriod = true)

/-- 70_reset_and_hazards.md R243: after a reset, and until a timer-high write, every length value and every channel
output is 0 and so every sample is 0; until a frame-counter write that enables it, no interrupt is raised (the spec
derives the rule from R240, R242, R168, R200 and R223). Where no sample is offered the 0 on the port is the model's
choice (log 22) or R94's. -/
def Obligations.SilentAfterResetUntilTimerHigh : Prop :=
  ∀ (is : List Instr) (s t : State), execAll (.rst :: is) s = .next t →
    ((∀ i ∈ is, isTimerHigh i = false) →
      t.blk.p1.lengthValue = 0#8 ∧ t.blk.p2.lengthValue = 0#8 ∧ t.blk.t.lengthValue = 0#8 ∧
      t.blk.p1.output t.cfg = 0#4 ∧ t.blk.p2.output t.cfg = 0#4 ∧ t.blk.t.output = 0#4 ∧
      t.out.sample = 0#4) ∧
    ((∀ i ∈ is, enablesIrq i = false) → t.out.irq = false)

/-- 10_state.md R19, 40_coordinator.md R116, R117: the enable flags gate the mixer and nothing else: runs of the same
operations from states that differ in those flags alone agree on all the rest of the block, on the interrupt and on when
samples are offered; and a sample either run offers last is the mix of its channel outputs, each counted where its own
run's flag is set. That the mix is taken after the frame clock is the spec's own decision D10 (log 13), that State records
the ports log 4. -/
def Obligations.EnableFlagsReachOnlyTheSamples : Prop :=
  ∀ (is : List Instr) (s s' : State),
    s'.cfg = s.cfg → s'.blk.maskEnables = s.blk.maskEnables →
    ∃ t t', execAll is s = .next t ∧ execAll is s' = .next t' ∧
      t'.blk.maskEnables = t.blk.maskEnables ∧
      (is ≠ [] → t'.out.irq = t.out.irq ∧ t'.out.sampleValid = t.out.sampleValid ∧
        (t.out.sampleValid = true →
          t.out.sample.toNat = mixedLevels s.cfg t.blk / 3 ∧
          t'.out.sample.toNat = mixedLevels s.cfg t'.blk / 3))

/-- 60_exceptions.md R222, 40_coordinator.md R118: whether the sink is ready changes no state of the block and no
port: a dropped sample is recorded nowhere. -/
def Obligations.DroppedSamplesLeaveNoTrace : Prop :=
  ∀ (is : List Instr) (s : State) (ready attached : Bool),
    ∃ t t', execAll is s = .next t ∧
      execAll is { s with sinkReady := ready, sinkAttached := attached } = .next t' ∧
      t'.blk = t.blk ∧ t'.out = t.out ∧
      (is ≠ [] → ready = false → t'.delivered = none)

/-- 41_pulse.md R140: the pulse channels share no state: what pulse 1 holds, and what is written to it, reaches no
other part of the block. -/
def Obligations.PulseOneReachesNoOtherUnit : Prop :=
  ∀ (is : List Instr) (s s' : State),
    s'.cfg = s.cfg → s'.blk.maskP1 = s.blk.maskP1 →
    ∃ t t', execAll is s = .next t ∧
      execAll (is.filter fun i => !writesP1 i) s' = .next t' ∧
      t'.blk.maskP1 = t.blk.maskP1

/-- 10_state.md R27, 00_scope.md R5: the two pulse channels are two instances of one type: exchanging them commutes
with every advance and turns each write to one into the same write to the other. -/
def Obligations.PulseChannelsAreInterchangeable : Prop :=
  (∀ s t : State, exec .adv s = .next t → exec .adv s.swapPulses = .next t.swapPulses) ∧
  (∀ (v : Byte) (s t : State),
    (exec (.wrP1Ctrl v) s = .next t → exec (.wrP2Ctrl v) s.swapPulses = .next t.swapPulses) ∧
    (exec (.wrP1Sweep v) s = .next t → exec (.wrP2Sweep v) s.swapPulses = .next t.swapPulses) ∧
    (exec (.wrP1Tlo v) s = .next t → exec (.wrP2Tlo v) s.swapPulses = .next t.swapPulses) ∧
    (exec (.wrP1Thi v) s = .next t → exec (.wrP2Thi v) s.swapPulses = .next t.swapPulses))

/-- 41_pulse.md R153: with a constant period p (no enabled sweep), from any cycle count and any counter q, m pulse timer
clocks run in n advances, one at each even count; the first q only count down, and from the next on the duty step of
either channel advances once every p + 1 of them, which is every 2(p + 1) advances, whatever the enables, length counters
and mute state hold (the spec derives the rule from R152 and R103). -/
def Obligations.DutyStepAdvancesEveryTwoPeriodsPlusTwo : Prop :=
  ∀ (c : PulseIx) (n m : Nat) (s : State), (s.blk.pulse c).sweepEnabled = false →
    m = (s.blk.a.cycle + n + 1) / 2 - (s.blk.a.cycle + 1) / 2 →
    ∃ t, execAll (expandAdv n) s = .next t ∧
      (t.blk.pulse c).timerPeriod = (s.blk.pulse c).timerPeriod ∧
      (m ≤ (s.blk.pulse c).timerCounter →
        (t.blk.pulse c).timerCounter = (s.blk.pulse c).timerCounter - m ∧
        (t.blk.pulse c).dutyStep = (s.blk.pulse c).dutyStep) ∧
      (∀ r, m = (s.blk.pulse c).timerCounter + 1 + r →
        (t.blk.pulse c).timerCounter =
          (s.blk.pulse c).timerPeriod - r % ((s.blk.pulse c).timerPeriod + 1) ∧
        (t.blk.pulse c).dutyStep.toNat =
          ((s.blk.pulse c).dutyStep.toNat + 1 + r / ((s.blk.pulse c).timerPeriod + 1)) % 8)

/-- 42_triangle.md R196, R198: with a constant period p, length counting disabled and the linear reload pending, from any
counter q the linear counter never reaches 0; the first q advances only count down, and from the next on the triangle
steps once every p + 1 advances (the spec derives it from R195). -/
def Obligations.HeldTriangleStepsEveryPeriodPlusOne : Prop :=
  ∀ (n : Nat) (s : State), s.blk.t.lengthEnabled = false → s.blk.t.linReload = true →
    s.blk.t.lengthValue ≠ 0#8 → s.blk.t.linValue ≠ 0#7 → s.blk.t.linPeriod ≠ 0#7 →
    ∃ t, execAll (expandAdv n) s = .next t ∧
      t.blk.t.timerPeriod = s.blk.t.timerPeriod ∧ t.blk.t.linReload = true ∧ t.blk.t.linValue ≠ 0#7 ∧
      t.blk.t.lengthValue = s.blk.t.lengthValue ∧
      (n ≤ s.blk.t.timerCounter →
        t.blk.t.timerCounter = s.blk.t.timerCounter - n ∧ t.blk.t.step = s.blk.t.step) ∧
      (∀ r, n = s.blk.t.timerCounter + 1 + r →
        t.blk.t.timerCounter = s.blk.t.timerPeriod - r % (s.blk.t.timerPeriod + 1) ∧
        t.blk.t.step.toNat = (s.blk.t.step.toNat + 1 + r / (s.blk.t.timerPeriod + 1)) % 32)

/-- 41_pulse.md R157, R158: the envelope sequence, from the quarter clock that consumes `env_start` (clock 0): decay
events fall on the clocks k(p + 1), the divider counts down between them, and after 16 events the level starts over
with loop set and rests at 0 without (the spec derives the rule from R155, its decision D7). -/
def Obligations.EnvelopeDecaysOnceEveryPeriodPlusOneClocks : Prop :=
  ∀ (p : Pulse) (k j : Nat), p.envStart = true → j ≤ p.envPeriod.toNat →
    ((Pulse.envClock)^[1 + k * (p.envPeriod.toNat + 1) + j] p).envDivider.toNat = p.envPeriod.toNat - j ∧
    ((Pulse.envClock)^[1 + k * (p.envPeriod.toNat + 1) + j] p).envDecay.toNat =
      (if p.envLoop = true then 15 - k % 16 else 15 - k)

/-- 70_reset_and_hazards.md R257: a length value n reaches 0 after n half clocks where length counting is enabled,
and stays; where it is disabled it never changes. -/
def Obligations.LengthRunsOutAfterAsManyHalfClocks : Prop :=
  ∀ (n : Nat) (p : Pulse) (t : Triangle),
    (p.lengthEnabled = true →
      ((Pulse.lengthClock)^[n] p).lengthValue.toNat = p.lengthValue.toNat - n) ∧
    (p.lengthEnabled = false → (Pulse.lengthClock)^[n] p = p) ∧
    (t.lengthEnabled = true →
      ((Triangle.lengthClock)^[n] t).lengthValue.toNat = t.lengthValue.toNat - n) ∧
    (t.lengthEnabled = false → (Triangle.lengthClock)^[n] t = t)
end

