-- ==== Sys2Proof/Laws/Conditions.lean ====
section
/-! SUPPORT. The event crossings (40_coordinator.md R101) and the step table (R110). -/

namespace Sys2Proof.Machine

theorem crosses_iff (c : Nat) (p : Ratio) :
    crosses c p = true ↔ (c + 1) * p.den / p.num ≠ c * p.den / p.num := by
  simp [crosses, periodsPassed]

theorem crosses_eq_false_iff (c : Nat) (p : Ratio) :
    crosses c p = false ↔ (c + 1) * p.den / p.num = c * p.den / p.num := by
  simp [crosses, periodsPassed]

/-- The frame event of Safety.lean is the machine's crossing test. -/
theorem frameEvent_iff (s : State) : s.FrameEvent ↔ crosses s.blk.a.cycle s.cfg.framePeriod = true :=
  (crosses_iff _ _).symm

/-- The sample event of Safety.lean is the machine's crossing test. -/
theorem sampleEvent_iff (s : State) : s.SampleEvent ↔ crosses s.blk.a.cycle s.cfg.samplePeriod = true :=
  (crosses_iff _ _).symm

theorem periodsPassed_mono (p : Ratio) {c d : Nat} (h : c ≤ d) : periodsPassed p c ≤ periodsPassed p d :=
  Nat.div_le_div_right (Nat.mul_le_mul_right _ h)

/-- A period of at least 1 is passed at most once by one advance (00_scope.md R11). -/
theorem periodsPassed_succ (p : Ratio) (c : Nat) (h : p.AtLeastOne) :
    periodsPassed p (c + 1) = periodsPassed p c + if crosses c p then 1 else 0 := by
  have hpos : 0 < p.num := Nat.lt_of_lt_of_le h.1 h.2
  have hup : periodsPassed p (c + 1) ≤ periodsPassed p c + 1 := by
    unfold periodsPassed
    rw [← Nat.add_div_right _ hpos]
    exact Nat.div_le_div_right (by have := h.2; grind)
  have hlo := periodsPassed_mono p (Nat.le_succ c)
  unfold crosses
  split
  · simp_all; omega
  · simp_all

/-- A frame clock always moves the step index (40_coordinator.md R110). -/
theorem stepAfter_ne (m : FrameMode) (i : BitVec 3) : stepAfter m i ≠ i := by
  cases m <;> revert i <;> decide

/-- A legal step index stays legal (10_state.md R24). -/
theorem stepAfter_le (m : FrameMode) (i : BitVec 3) : (stepAfter m i).toNat ≤ 4 := by
  cases m <;> revert i <;> decide

/-- In 4-step mode the index after a frame clock is in 0 to 3 (40_coordinator.md R111, R115). -/
theorem stepAfter_fourStep (i : BitVec 3) : (stepAfter .fourStep i).toNat = (i.toNat + 1) % 4 := by
  revert i; decide

/-- In 5-step mode the index advances mod 5 (40_coordinator.md R112). -/
theorem stepAfter_fiveStep (i : BitVec 3) : (stepAfter .fiveStep i).toNat = (i.toNat + 1) % 5 := by
  revert i; decide

/-- The interrupt needs 4-step mode, step 3 and the enable (40_coordinator.md R111). -/
theorem irqAt_iff (m : FrameMode) (i : BitVec 3) (e : Bool) :
    irqAt m i e = true ↔ m = .fourStep ∧ i = 3#3 ∧ e = true := by
  cases m <;> simp [irqAt]

/-- A half clock's steps (40_coordinator.md R111, R112). -/
theorem halfAt_iff (m : FrameMode) (i : BitVec 3) :
    halfAt m i = true ↔
      m = .fourStep ∧ (i = 1#3 ∨ i = 3#3) ∨ m = .fiveStep ∧ (i = 0#3 ∨ i = 2#3) := by
  cases m <;> simp [halfAt]

/-- A quarter clock's steps (40_coordinator.md R111, R112). -/
theorem quarterAt_iff (m : FrameMode) (i : BitVec 3) : quarterAt m i = true ↔ i.toNat ≤ 3 := by
  simp [quarterAt]

/-- The two counters that gate the triangle (42_triangle.md R195, R200). -/
theorem triangleSounds_iff (t : Triangle) :
    triangleSounds t = true ↔ t.lengthValue ≠ 0#8 ∧ t.linValue ≠ 0#7 := by
  simp [triangleSounds]

end Sys2Proof.Machine
end

