-- ==== Sys2Proof/Laws/State.lean ====
section
/-! SUPPORT. Each update's fields, so that no later proof unfolds an update. -/

namespace Sys2Proof.Machine

/-! `State.conclude` -/

@[simp] theorem State.conclude_cfg (s : State) (b o d) : (s.conclude b o d).cfg = s.cfg := rfl
@[simp] theorem State.conclude_blk (s : State) (b o d) : (s.conclude b o d).blk = b := rfl
@[simp] theorem State.conclude_out (s : State) (b o d) : (s.conclude b o d).out = o := rfl
@[simp] theorem State.conclude_delivered (s : State) (b o d) : (s.conclude b o d).delivered = d := rfl
@[simp] theorem State.conclude_sinkReady (s : State) (b o d) :
    (s.conclude b o d).sinkReady = s.sinkReady := rfl
@[simp] theorem State.conclude_sinkAttached (s : State) (b o d) :
    (s.conclude b o d).sinkAttached = s.sinkAttached := rfl
@[simp] theorem State.conclude_pending (s : State) (b o d) : (s.conclude b o d).pending = s.pending := rfl

/-! `State.settle` -/

@[simp] theorem State.settle_cfg (s : State) (b) : (s.settle b).cfg = s.cfg := rfl
@[simp] theorem State.settle_blk (s : State) (b) : (s.settle b).blk = b := rfl
@[simp] theorem State.settle_out (s : State) (b) : (s.settle b).out = Outputs.quiet := rfl
@[simp] theorem State.settle_delivered (s : State) (b) : (s.settle b).delivered = none := rfl
@[simp] theorem State.settle_sinkReady (s : State) (b) : (s.settle b).sinkReady = s.sinkReady := rfl
@[simp] theorem State.settle_sinkAttached (s : State) (b) :
    (s.settle b).sinkAttached = s.sinkAttached := rfl
@[simp] theorem State.settle_pending (s : State) (b) : (s.settle b).pending = s.pending := rfl

/-- An operation with no output ends as Safety.lean words it. -/
theorem State.settle_eq_withBlock (s : State) (b : Block) : s.settle b = s.withBlock b := rfl

/-- A read that returns 0 ends as an operation with no output does. -/
theorem State.answer_zero (s : State) : s.answer 0 = s.settle s.blk := rfl

/-! `State.idle`, `State.attach`, `State.take`, `State.drive`, `State.present` -/

@[simp] theorem State.idle_cfg (s : State) : s.idle.cfg = s.cfg := rfl
@[simp] theorem State.idle_blk (s : State) : s.idle.blk = s.blk := rfl
@[simp] theorem State.idle_out (s : State) : s.idle.out = Outputs.quiet := rfl
@[simp] theorem State.idle_delivered (s : State) : s.idle.delivered = none := rfl
@[simp] theorem State.idle_sinkReady (s : State) : s.idle.sinkReady = s.sinkReady := rfl
@[simp] theorem State.idle_sinkAttached (s : State) : s.idle.sinkAttached = s.sinkAttached := rfl
@[simp] theorem State.idle_pending (s : State) : s.idle.pending = s.pending := rfl

@[simp] theorem State.attach_cfg (s : State) : s.attach.cfg = s.cfg := rfl
@[simp] theorem State.attach_blk (s : State) : s.attach.blk = s.blk := rfl
@[simp] theorem State.attach_out (s : State) : s.attach.out = Outputs.quiet := rfl
@[simp] theorem State.attach_delivered (s : State) : s.attach.delivered = none := rfl
@[simp] theorem State.attach_sinkReady (s : State) : s.attach.sinkReady = s.sinkReady := rfl
@[simp] theorem State.attach_sinkAttached (s : State) : s.attach.sinkAttached = true := rfl
@[simp] theorem State.attach_pending (s : State) : s.attach.pending = s.pending := rfl

@[simp] theorem State.take_cfg (s : State) (r) : (s.take r).cfg = s.cfg := rfl
@[simp] theorem State.take_blk (s : State) (r) : (s.take r).blk = s.blk := rfl
@[simp] theorem State.take_out (s : State) (r) : (s.take r).out = s.out := rfl
@[simp] theorem State.take_delivered (s : State) (r) : (s.take r).delivered = s.delivered := rfl
@[simp] theorem State.take_sinkReady (s : State) (r) : (s.take r).sinkReady = s.sinkReady := rfl
@[simp] theorem State.take_sinkAttached (s : State) (r) : (s.take r).sinkAttached = s.sinkAttached := rfl
@[simp] theorem State.take_pending (s : State) (r) : (s.take r).pending = r := rfl

@[simp] theorem State.drive_cfg (s : State) (r) : (s.drive r).cfg = s.cfg := rfl
@[simp] theorem State.drive_blk (s : State) (r) : (s.drive r).blk = s.blk := rfl
@[simp] theorem State.drive_out (s : State) (r) : (s.drive r).out = s.out := rfl
@[simp] theorem State.drive_delivered (s : State) (r) : (s.drive r).delivered = s.delivered := rfl
@[simp] theorem State.drive_sinkReady (s : State) (r) : (s.drive r).sinkReady = (s.sinkAttached && r) := rfl
@[simp] theorem State.drive_sinkAttached (s : State) (r) : (s.drive r).sinkAttached = s.sinkAttached := rfl
@[simp] theorem State.drive_pending (s : State) (r) : (s.drive r).pending = s.pending := rfl

@[simp] theorem State.present_cfg (s : State) (w) : (s.present w).cfg = s.cfg := rfl
@[simp] theorem State.present_blk (s : State) (w) : (s.present w).blk = s.blk := rfl
@[simp] theorem State.present_out (s : State) (w) : (s.present w).out = s.out := rfl
@[simp] theorem State.present_delivered (s : State) (w) : (s.present w).delivered = s.delivered := rfl
@[simp] theorem State.present_sinkReady (s : State) (w) : (s.present w).sinkReady = s.sinkReady := rfl
@[simp] theorem State.present_sinkAttached (s : State) (w) :
    (s.present w).sinkAttached = s.sinkAttached := rfl
@[simp] theorem State.present_pending (s : State) (w) :
    (s.present w).pending = .operation w s.sinkReady :: s.pending := rfl

/-! Ports -/

@[simp] theorem Outputs.quiet_rdata : Outputs.quiet.rdata = 0#8 := rfl
@[simp] theorem Outputs.quiet_irq : Outputs.quiet.irq = false := rfl
@[simp] theorem Outputs.quiet_sampleValid : Outputs.quiet.sampleValid = false := rfl
@[simp] theorem Outputs.quiet_sample : Outputs.quiet.sample = 0#4 := rfl

@[simp] theorem advanceOutputs_rdata (q x) : (advanceOutputs q x).rdata = 0#8 := rfl
@[simp] theorem advanceOutputs_irq (q x) : (advanceOutputs q x).irq = q := rfl
@[simp] theorem advanceOutputs_sampleValid (q x) : (advanceOutputs q x).sampleValid = x.isSome := rfl
@[simp] theorem advanceOutputs_sample (q x) : (advanceOutputs q x).sample = x.getD 0#4 := rfl

/-! Parts of the block -/

@[simp] theorem Block.setA_a (b : Block) (a) : (b.setA a).a = a := rfl
@[simp] theorem Block.setA_p1 (b : Block) (a) : (b.setA a).p1 = b.p1 := rfl
@[simp] theorem Block.setA_p2 (b : Block) (a) : (b.setA a).p2 = b.p2 := rfl
@[simp] theorem Block.setA_t (b : Block) (a) : (b.setA a).t = b.t := rfl

@[simp] theorem Block.setT_a (b : Block) (t) : (b.setT t).a = b.a := rfl
@[simp] theorem Block.setT_p1 (b : Block) (t) : (b.setT t).p1 = b.p1 := rfl
@[simp] theorem Block.setT_p2 (b : Block) (t) : (b.setT t).p2 = b.p2 := rfl
@[simp] theorem Block.setT_t (b : Block) (t) : (b.setT t).t = t := rfl

@[simp] theorem Block.pulse_one (b : Block) : b.pulse .one = b.p1 := rfl
@[simp] theorem Block.pulse_two (b : Block) : b.pulse .two = b.p2 := rfl
@[simp] theorem Block.setPulse_one (b : Block) (p) : b.setPulse .one p = { b with p1 := p } := rfl
@[simp] theorem Block.setPulse_two (b : Block) (p) : b.setPulse .two p = { b with p2 := p } := rfl

/-- A channel's write does not reach the other channel (41_pulse.md R140). -/
theorem Block.pulse_setPulse (b : Block) (c d : PulseIx) (p : Pulse) :
    (b.setPulse c p).pulse d = if d = c then p else b.pulse d := by
  cases c with
  | one => cases d with | one => rfl | two => rfl
  | two => cases d with | one => rfl | two => rfl

end Sys2Proof.Machine
end

