-- ==== Sys2Proof/Laws/Operands.lean ====
section
/-! SUPPORT. The assembled timer periods (20_memory.md R63) in arithmetic, and their bounds. -/

namespace Sys2Proof.Machine

theorem slice_lt (lo n x : Nat) : slice lo n x < 2 ^ n := Nat.mod_lt _ (Nat.two_pow_pos n)

/-- A timer-low write replaces the low byte of a period of `PERIOD_W` bits. -/
theorem periodWithLow_eq (w x : Nat) (v : Byte) (hw : 8 ≤ w) (hx : x < 2 ^ w) :
    periodWithLow w x v = x / 256 * 256 + v.toNat := by
  have h : x / 2 ^ 8 < 2 ^ (w - 8) := by
    rw [Nat.div_lt_iff_lt_mul (by norm_num), ← Nat.pow_add]
    rwa [show w - 8 + 8 = w by omega]
  rw [periodWithLow, slice, Nat.mod_eq_of_lt h]
  norm_num

/-- A timer-low write leaves a period of `PERIOD_W` bits (10_state.md R30). -/
theorem periodWithLow_lt (w x : Nat) (v : Byte) (hw : 8 ≤ w) : periodWithLow w x v < 2 ^ w := by
  have h := slice_lt 8 (w - 8) x
  have hv := v.isLt
  have e : 2 ^ w = 2 ^ (w - 8) * 2 ^ 8 := by rw [← Nat.pow_add]; congr 1; omega
  unfold periodWithLow
  rw [e]
  generalize 2 ^ (w - 8) = m at *
  omega

/-- The low byte after a timer-low write, whatever the width. -/
theorem periodWithLow_mod (w x : Nat) (v : Byte) : periodWithLow w x v % 256 = v.toNat := by
  have hv := v.isLt
  unfold periodWithLow
  omega

/-- A timer-low write keeps an 11-bit period 11 bits (10_state.md R47). -/
theorem periodWithLow_le (w x : Nat) (v : Byte) (hx : x ≤ 0x7FF) : periodWithLow w x v ≤ 0x7FF := by
  have hv := v.isLt
  have h : slice 8 (w - 8) x ≤ 7 := Nat.le_trans (Nat.mod_le _ _) (by omega)
  unfold periodWithLow
  omega

theorem thiPeriodHigh_toNat (v : Byte) : (thiPeriodHigh v).toNat = v.toNat % 8 := by
  simp [thiPeriodHigh, field]

/-- A timer-high write's period (41_pulse.md R150, 42_triangle.md R194). -/
theorem periodWithHigh_eq (x : Nat) (v : Byte) : periodWithHigh x v = v.toNat % 8 * 256 + x % 256 := by
  simp [periodWithHigh, slice, thiPeriodHigh_toNat]

/-- A timer-high write leaves an 11-bit period: every bit above 10 is clear (41_pulse.md R150). -/
theorem periodWithHigh_le (x : Nat) (v : Byte) : periodWithHigh x v ≤ 0x7FF := by
  rw [periodWithHigh_eq]
  omega

/-- An 11-bit period fits every legal width. -/
theorem elevenBits_lt {w x : Nat} (hw : 12 ≤ w) (hx : x ≤ 0x7FF) : x < 2 ^ w :=
  Nat.lt_of_lt_of_le (by omega) (Nat.pow_le_pow_right (n := 2) (by norm_num) hw)

end Sys2Proof.Machine
end

