-- ==== Sys2Proof/Laws/Pulse.lean ====
section
/-! SUPPORT. The pulse channel's procedures: the fields each leaves alone, what each does to the fields it
writes, and that each keeps a channel's values legal. -/

namespace Sys2Proof.Machine

/-! `Pulse.timerClock` leaves these fields alone. -/

@[simp] theorem Pulse.timerClock_dutyMode (p : Pulse) : p.timerClock.dutyMode = p.dutyMode := by
  unfold Pulse.timerClock; split_ifs <;> rfl
@[simp] theorem Pulse.timerClock_timerPeriod (p : Pulse) : p.timerClock.timerPeriod = p.timerPeriod := by
  unfold Pulse.timerClock; split_ifs <;> rfl
@[simp] theorem Pulse.timerClock_lengthEnabled (p : Pulse) : p.timerClock.lengthEnabled = p.lengthEnabled := by
  unfold Pulse.timerClock; split_ifs <;> rfl
@[simp] theorem Pulse.timerClock_lengthValue (p : Pulse) : p.timerClock.lengthValue = p.lengthValue := by
  unfold Pulse.timerClock; split_ifs <;> rfl
@[simp] theorem Pulse.timerClock_sweepEnabled (p : Pulse) : p.timerClock.sweepEnabled = p.sweepEnabled := by
  unfold Pulse.timerClock; split_ifs <;> rfl
@[simp] theorem Pulse.timerClock_sweepNegate (p : Pulse) : p.timerClock.sweepNegate = p.sweepNegate := by
  unfold Pulse.timerClock; split_ifs <;> rfl
@[simp] theorem Pulse.timerClock_sweepShift (p : Pulse) : p.timerClock.sweepShift = p.sweepShift := by
  unfold Pulse.timerClock; split_ifs <;> rfl
@[simp] theorem Pulse.timerClock_sweepPeriod (p : Pulse) : p.timerClock.sweepPeriod = p.sweepPeriod := by
  unfold Pulse.timerClock; split_ifs <;> rfl
@[simp] theorem Pulse.timerClock_sweepDivider (p : Pulse) : p.timerClock.sweepDivider = p.sweepDivider := by
  unfold Pulse.timerClock; split_ifs <;> rfl
@[simp] theorem Pulse.timerClock_sweepReload (p : Pulse) : p.timerClock.sweepReload = p.sweepReload := by
  unfold Pulse.timerClock; split_ifs <;> rfl
@[simp] theorem Pulse.timerClock_envEnabled (p : Pulse) : p.timerClock.envEnabled = p.envEnabled := by
  unfold Pulse.timerClock; split_ifs <;> rfl
@[simp] theorem Pulse.timerClock_envLoop (p : Pulse) : p.timerClock.envLoop = p.envLoop := by
  unfold Pulse.timerClock; split_ifs <;> rfl
@[simp] theorem Pulse.timerClock_envStart (p : Pulse) : p.timerClock.envStart = p.envStart := by
  unfold Pulse.timerClock; split_ifs <;> rfl
@[simp] theorem Pulse.timerClock_envPeriod (p : Pulse) : p.timerClock.envPeriod = p.envPeriod := by
  unfold Pulse.timerClock; split_ifs <;> rfl
@[simp] theorem Pulse.timerClock_envDivider (p : Pulse) : p.timerClock.envDivider = p.envDivider := by
  unfold Pulse.timerClock; split_ifs <;> rfl
@[simp] theorem Pulse.timerClock_envDecay (p : Pulse) : p.timerClock.envDecay = p.envDecay := by
  unfold Pulse.timerClock; split_ifs <;> rfl
@[simp] theorem Pulse.timerClock_constVolume (p : Pulse) : p.timerClock.constVolume = p.constVolume := by
  unfold Pulse.timerClock; split_ifs <;> rfl

/-! `Pulse.envClock` leaves these fields alone. -/

@[simp] theorem Pulse.envClock_dutyMode (p : Pulse) : p.envClock.dutyMode = p.dutyMode := by
  unfold Pulse.envClock; split_ifs <;> rfl
@[simp] theorem Pulse.envClock_dutyStep (p : Pulse) : p.envClock.dutyStep = p.dutyStep := by
  unfold Pulse.envClock; split_ifs <;> rfl
@[simp] theorem Pulse.envClock_timerPeriod (p : Pulse) : p.envClock.timerPeriod = p.timerPeriod := by
  unfold Pulse.envClock; split_ifs <;> rfl
@[simp] theorem Pulse.envClock_timerCounter (p : Pulse) : p.envClock.timerCounter = p.timerCounter := by
  unfold Pulse.envClock; split_ifs <;> rfl
@[simp] theorem Pulse.envClock_lengthEnabled (p : Pulse) : p.envClock.lengthEnabled = p.lengthEnabled := by
  unfold Pulse.envClock; split_ifs <;> rfl
@[simp] theorem Pulse.envClock_lengthValue (p : Pulse) : p.envClock.lengthValue = p.lengthValue := by
  unfold Pulse.envClock; split_ifs <;> rfl
@[simp] theorem Pulse.envClock_sweepEnabled (p : Pulse) : p.envClock.sweepEnabled = p.sweepEnabled := by
  unfold Pulse.envClock; split_ifs <;> rfl
@[simp] theorem Pulse.envClock_sweepNegate (p : Pulse) : p.envClock.sweepNegate = p.sweepNegate := by
  unfold Pulse.envClock; split_ifs <;> rfl
@[simp] theorem Pulse.envClock_sweepShift (p : Pulse) : p.envClock.sweepShift = p.sweepShift := by
  unfold Pulse.envClock; split_ifs <;> rfl
@[simp] theorem Pulse.envClock_sweepPeriod (p : Pulse) : p.envClock.sweepPeriod = p.sweepPeriod := by
  unfold Pulse.envClock; split_ifs <;> rfl
@[simp] theorem Pulse.envClock_sweepDivider (p : Pulse) : p.envClock.sweepDivider = p.sweepDivider := by
  unfold Pulse.envClock; split_ifs <;> rfl
@[simp] theorem Pulse.envClock_sweepReload (p : Pulse) : p.envClock.sweepReload = p.sweepReload := by
  unfold Pulse.envClock; split_ifs <;> rfl
@[simp] theorem Pulse.envClock_envEnabled (p : Pulse) : p.envClock.envEnabled = p.envEnabled := by
  unfold Pulse.envClock; split_ifs <;> rfl
@[simp] theorem Pulse.envClock_envLoop (p : Pulse) : p.envClock.envLoop = p.envLoop := by
  unfold Pulse.envClock; split_ifs <;> rfl
@[simp] theorem Pulse.envClock_envPeriod (p : Pulse) : p.envClock.envPeriod = p.envPeriod := by
  unfold Pulse.envClock; split_ifs <;> rfl
@[simp] theorem Pulse.envClock_constVolume (p : Pulse) : p.envClock.constVolume = p.constVolume := by
  unfold Pulse.envClock; split_ifs <;> rfl

/-! `Pulse.sweepClock` leaves these fields alone. -/

@[simp] theorem Pulse.sweepClock_dutyMode (w : Nat) (p : Pulse) :
    (p.sweepClock w).dutyMode = p.dutyMode := by
  unfold Pulse.sweepClock Pulse.sweepIfDue Pulse.sweepApply; split_ifs <;> rfl
@[simp] theorem Pulse.sweepClock_dutyStep (w : Nat) (p : Pulse) :
    (p.sweepClock w).dutyStep = p.dutyStep := by
  unfold Pulse.sweepClock Pulse.sweepIfDue Pulse.sweepApply; split_ifs <;> rfl
@[simp] theorem Pulse.sweepClock_timerCounter (w : Nat) (p : Pulse) :
    (p.sweepClock w).timerCounter = p.timerCounter := by
  unfold Pulse.sweepClock Pulse.sweepIfDue Pulse.sweepApply; split_ifs <;> rfl
@[simp] theorem Pulse.sweepClock_lengthEnabled (w : Nat) (p : Pulse) :
    (p.sweepClock w).lengthEnabled = p.lengthEnabled := by
  unfold Pulse.sweepClock Pulse.sweepIfDue Pulse.sweepApply; split_ifs <;> rfl
@[simp] theorem Pulse.sweepClock_lengthValue (w : Nat) (p : Pulse) :
    (p.sweepClock w).lengthValue = p.lengthValue := by
  unfold Pulse.sweepClock Pulse.sweepIfDue Pulse.sweepApply; split_ifs <;> rfl
@[simp] theorem Pulse.sweepClock_sweepEnabled (w : Nat) (p : Pulse) :
    (p.sweepClock w).sweepEnabled = p.sweepEnabled := by
  unfold Pulse.sweepClock Pulse.sweepIfDue Pulse.sweepApply; split_ifs <;> rfl
@[simp] theorem Pulse.sweepClock_sweepNegate (w : Nat) (p : Pulse) :
    (p.sweepClock w).sweepNegate = p.sweepNegate := by
  unfold Pulse.sweepClock Pulse.sweepIfDue Pulse.sweepApply; split_ifs <;> rfl
@[simp] theorem Pulse.sweepClock_sweepShift (w : Nat) (p : Pulse) :
    (p.sweepClock w).sweepShift = p.sweepShift := by
  unfold Pulse.sweepClock Pulse.sweepIfDue Pulse.sweepApply; split_ifs <;> rfl
@[simp] theorem Pulse.sweepClock_sweepPeriod (w : Nat) (p : Pulse) :
    (p.sweepClock w).sweepPeriod = p.sweepPeriod := by
  unfold Pulse.sweepClock Pulse.sweepIfDue Pulse.sweepApply; split_ifs <;> rfl
@[simp] theorem Pulse.sweepClock_envEnabled (w : Nat) (p : Pulse) :
    (p.sweepClock w).envEnabled = p.envEnabled := by
  unfold Pulse.sweepClock Pulse.sweepIfDue Pulse.sweepApply; split_ifs <;> rfl
@[simp] theorem Pulse.sweepClock_envLoop (w : Nat) (p : Pulse) :
    (p.sweepClock w).envLoop = p.envLoop := by
  unfold Pulse.sweepClock Pulse.sweepIfDue Pulse.sweepApply; split_ifs <;> rfl
@[simp] theorem Pulse.sweepClock_envStart (w : Nat) (p : Pulse) :
    (p.sweepClock w).envStart = p.envStart := by
  unfold Pulse.sweepClock Pulse.sweepIfDue Pulse.sweepApply; split_ifs <;> rfl
@[simp] theorem Pulse.sweepClock_envPeriod (w : Nat) (p : Pulse) :
    (p.sweepClock w).envPeriod = p.envPeriod := by
  unfold Pulse.sweepClock Pulse.sweepIfDue Pulse.sweepApply; split_ifs <;> rfl
@[simp] theorem Pulse.sweepClock_envDivider (w : Nat) (p : Pulse) :
    (p.sweepClock w).envDivider = p.envDivider := by
  unfold Pulse.sweepClock Pulse.sweepIfDue Pulse.sweepApply; split_ifs <;> rfl
@[simp] theorem Pulse.sweepClock_envDecay (w : Nat) (p : Pulse) :
    (p.sweepClock w).envDecay = p.envDecay := by
  unfold Pulse.sweepClock Pulse.sweepIfDue Pulse.sweepApply; split_ifs <;> rfl
@[simp] theorem Pulse.sweepClock_constVolume (w : Nat) (p : Pulse) :
    (p.sweepClock w).constVolume = p.constVolume := by
  unfold Pulse.sweepClock Pulse.sweepIfDue Pulse.sweepApply; split_ifs <;> rfl

/-! `Pulse.lengthClock` leaves these fields alone. -/

@[simp] theorem Pulse.lengthClock_dutyMode (p : Pulse) : p.lengthClock.dutyMode = p.dutyMode := rfl
@[simp] theorem Pulse.lengthClock_dutyStep (p : Pulse) : p.lengthClock.dutyStep = p.dutyStep := rfl
@[simp] theorem Pulse.lengthClock_timerPeriod (p : Pulse) : p.lengthClock.timerPeriod = p.timerPeriod := rfl
@[simp] theorem Pulse.lengthClock_timerCounter (p : Pulse) : p.lengthClock.timerCounter = p.timerCounter := rfl
@[simp] theorem Pulse.lengthClock_lengthEnabled (p : Pulse) : p.lengthClock.lengthEnabled = p.lengthEnabled := rfl
@[simp] theorem Pulse.lengthClock_sweepEnabled (p : Pulse) : p.lengthClock.sweepEnabled = p.sweepEnabled := rfl
@[simp] theorem Pulse.lengthClock_sweepNegate (p : Pulse) : p.lengthClock.sweepNegate = p.sweepNegate := rfl
@[simp] theorem Pulse.lengthClock_sweepShift (p : Pulse) : p.lengthClock.sweepShift = p.sweepShift := rfl
@[simp] theorem Pulse.lengthClock_sweepPeriod (p : Pulse) : p.lengthClock.sweepPeriod = p.sweepPeriod := rfl
@[simp] theorem Pulse.lengthClock_sweepDivider (p : Pulse) : p.lengthClock.sweepDivider = p.sweepDivider := rfl
@[simp] theorem Pulse.lengthClock_sweepReload (p : Pulse) : p.lengthClock.sweepReload = p.sweepReload := rfl
@[simp] theorem Pulse.lengthClock_envEnabled (p : Pulse) : p.lengthClock.envEnabled = p.envEnabled := rfl
@[simp] theorem Pulse.lengthClock_envLoop (p : Pulse) : p.lengthClock.envLoop = p.envLoop := rfl
@[simp] theorem Pulse.lengthClock_envStart (p : Pulse) : p.lengthClock.envStart = p.envStart := rfl
@[simp] theorem Pulse.lengthClock_envPeriod (p : Pulse) : p.lengthClock.envPeriod = p.envPeriod := rfl
@[simp] theorem Pulse.lengthClock_envDivider (p : Pulse) : p.lengthClock.envDivider = p.envDivider := rfl
@[simp] theorem Pulse.lengthClock_envDecay (p : Pulse) : p.lengthClock.envDecay = p.envDecay := rfl
@[simp] theorem Pulse.lengthClock_constVolume (p : Pulse) : p.lengthClock.constVolume = p.constVolume := rfl

/-! What the timer clock does (41_pulse.md R152). -/

theorem Pulse.timerClock_timerCounter (p : Pulse) :
    p.timerClock.timerCounter = if p.timerCounter = 0 then p.timerPeriod else p.timerCounter - 1 := by
  unfold Pulse.timerClock; split_ifs <;> rfl

theorem Pulse.timerClock_dutyStep (p : Pulse) :
    p.timerClock.dutyStep = if p.timerCounter = 0 then p.dutyStep + 1 else p.dutyStep := by
  unfold Pulse.timerClock; split_ifs <;> rfl

/-! What the envelope clock does (41_pulse.md R155). -/

theorem Pulse.envClock_started (p : Pulse) (h : p.envStart = true) :
    p.envClock = { p with envDecay := 15#4, envDivider := p.envPeriod, envStart := false } := by
  simp [Pulse.envClock, h]

theorem Pulse.envClock_counting (p : Pulse) (h : p.envStart = false) (d : p.envDivider ≠ 0#4) :
    p.envClock = { p with envDivider := p.envDivider - 1 } := by
  simp only [Pulse.envClock, h, d, Bool.false_eq_true, if_false, ne_eq, not_false_eq_true, if_true]

theorem Pulse.envClock_decaying (p : Pulse) (h : p.envStart = false) (d : p.envDivider = 0#4) :
    p.envClock = { p with envDivider := p.envPeriod, envDecay := p.decayed } := by
  simp only [Pulse.envClock, h, d, Bool.false_eq_true, if_false, ne_eq, not_true_eq_false]

@[simp] theorem Pulse.envClock_envStart (p : Pulse) : p.envClock.envStart = false := by
  unfold Pulse.envClock; split_ifs <;> simp_all

/-! What the sweep clock does (41_pulse.md R159, R164). -/

theorem Pulse.sweepTarget_negate (w : Nat) (p : Pulse) (h : p.sweepNegate = true) :
    p.sweepTarget w = p.timerPeriod - p.timerPeriod / 2 ^ p.sweepShift.toNat := by
  simp [Pulse.sweepTarget, h, Nat.shiftRight_eq_div_pow]

theorem Pulse.sweepTarget_add (w : Nat) (p : Pulse) (h : p.sweepNegate = false) :
    p.sweepTarget w = (p.timerPeriod + p.timerPeriod / 2 ^ p.sweepShift.toNat) % 2 ^ w := by
  simp [Pulse.sweepTarget, h, Nat.shiftRight_eq_div_pow]

/-- The sweep leaves a period of `PERIOD_W` bits (10_state.md R30). -/
theorem Pulse.sweepTarget_lt (w : Nat) (p : Pulse) (h : p.timerPeriod < 2 ^ w) :
    p.sweepTarget w < 2 ^ w := by
  cases n : p.sweepNegate with
  | true => rw [p.sweepTarget_negate w n]; exact Nat.lt_of_le_of_lt (Nat.sub_le _ _) h
  | false => rw [p.sweepTarget_add w n]; exact Nat.mod_lt _ (Nat.two_pow_pos w)

theorem Pulse.sweepClock_timerPeriod (w : Nat) (p : Pulse) :
    (p.sweepClock w).timerPeriod =
      if p.sweepEnabled = true ∧ p.sweepDivider = 0#3 then p.sweepTarget w else p.timerPeriod := by
  unfold Pulse.sweepClock Pulse.sweepIfDue Pulse.sweepApply
  split_ifs <;> simp_all

theorem Pulse.sweepClock_sweepDivider (w : Nat) (p : Pulse) :
    (p.sweepClock w).sweepDivider =
      if p.sweepReload = true ∨ p.sweepDivider = 0#3 then p.sweepPeriod else p.sweepDivider - 1 := by
  unfold Pulse.sweepClock Pulse.sweepIfDue Pulse.sweepApply
  split_ifs <;> simp_all

@[simp] theorem Pulse.sweepClock_sweepReload (w : Nat) (p : Pulse) :
    (p.sweepClock w).sweepReload = false := by
  unfold Pulse.sweepClock Pulse.sweepIfDue Pulse.sweepApply
  split_ifs <;> simp_all

/-! What the length clock does (41_pulse.md R166). -/

theorem lengthDown_toNat (enabled : Bool) (v : BitVec 8) :
    (lengthDown enabled v).toNat = if enabled = true then v.toNat - 1 else v.toNat := by
  cases enabled with
  | false => simp [lengthDown]
  | true => revert v; decide

theorem lengthDown_le (enabled : Bool) (v : BitVec 8) : (lengthDown enabled v).toNat ≤ v.toNat := by
  rw [lengthDown_toNat]; split_ifs <;> omega

@[simp] theorem lengthDown_zero (enabled : Bool) : lengthDown enabled 0#8 = 0#8 := by
  cases enabled <;> rfl

theorem Pulse.lengthClock_lengthValue (p : Pulse) :
    p.lengthClock.lengthValue = lengthDown p.lengthEnabled p.lengthValue := rfl

/-! Legal values are kept. -/

theorem Pulse.timerClock_ok {cfg : Config} {p : Pulse} (h : p.Ok cfg) : p.timerClock.Ok cfg := by
  obtain ⟨hp, hc, hl, he⟩ := h
  refine ⟨by simpa using hp, ?_, by simpa using hl, by simpa using he⟩
  rw [p.timerClock_timerCounter]
  split_ifs <;> omega

theorem Pulse.envClock_ok {cfg : Config} {p : Pulse} (h : p.Ok cfg) : p.envClock.Ok cfg := by
  simpa [Pulse.Ok] using h

theorem Pulse.sweepClock_ok {cfg : Config} {p : Pulse} (h : p.Ok cfg) :
    (p.sweepClock cfg.periodW).Ok cfg := by
  obtain ⟨hp, hc, hl, he⟩ := h
  refine ⟨?_, by simpa using hc, by simpa using hl, by simpa using he⟩
  rw [p.sweepClock_timerPeriod]
  split_ifs
  · exact p.sweepTarget_lt _ hp
  · exact hp

theorem Pulse.lengthClock_ok {cfg : Config} {p : Pulse} (h : p.Ok cfg) : p.lengthClock.Ok cfg := by
  obtain ⟨hp, hc, hl, he⟩ := h
  exact ⟨hp, hc, Nat.le_trans (lengthDown_le _ _) hl, he⟩

/-- Every length-table entry of a legal configuration is at most 254 (41_pulse.md R142). -/
theorem lengthFor_le {cfg : Config} (h : cfg.Legal) (v : Byte) : (lengthFor cfg v).toNat ≤ 254 :=
  h.2.2.2.2.2.2 _

theorem Pulse.writeCtrl_ok {cfg : Config} {p : Pulse} (h : p.Ok cfg) (v : Byte) :
    (p.writeCtrl v).Ok cfg := ⟨h.1, h.2.1, h.2.2.1, rfl⟩

theorem Pulse.writeSweep_ok {cfg : Config} {p : Pulse} (h : p.Ok cfg) (v : Byte) :
    (p.writeSweep v).Ok cfg := h

theorem Pulse.writeTimerLow_ok {cfg : Config} {p : Pulse} (hc : cfg.Legal) (h : p.Ok cfg) (v : Byte) :
    (p.writeTimerLow cfg.periodW v).Ok cfg :=
  ⟨periodWithLow_lt _ _ _ (by have := hc.2.2.1; omega), h.2⟩

theorem Pulse.writeTimerHigh_ok {cfg : Config} {p : Pulse} (hc : cfg.Legal) (h : p.Ok cfg) (v : Byte) :
    (p.writeTimerHigh cfg v).Ok cfg :=
  have hp := elevenBits_lt hc.2.2.1 (periodWithHigh_le p.timerPeriod v)
  ⟨hp, hp, lengthFor_le hc v, h.2.2.2⟩

theorem Pulse.reset_ok (cfg : Config) : Pulse.reset.Ok cfg :=
  ⟨Nat.two_pow_pos _, Nat.two_pow_pos _, by decide, rfl⟩

/-! The output (41_pulse.md R168). -/

theorem Pulse.output_toNat (cfg : Config) (p : Pulse) : (p.output cfg).toNat = pulseLevel cfg p := by
  unfold Pulse.output pulseLevel dutyHigh periodMutes
  grind

theorem pulseLevel_le (cfg : Config) (p : Pulse) : pulseLevel cfg p ≤ 15 := by
  have := (p.output cfg).isLt
  rw [p.output_toNat] at this
  omega

end Sys2Proof.Machine
end

