-- ==== Sys2Proof/Laws/Triangle.lean ====
section
/-! SUPPORT. The triangle channel's procedures: the fields each leaves alone, what each does to the fields it
writes, and that each keeps the channel's values legal. -/

namespace Sys2Proof.Machine

/-! `Triangle.timerClock` leaves these fields alone. -/

@[simp] theorem Triangle.timerClock_timerPeriod (t : Triangle) : t.timerClock.timerPeriod = t.timerPeriod := by
  unfold Triangle.timerClock; split_ifs <;> rfl
@[simp] theorem Triangle.timerClock_linPeriod (t : Triangle) : t.timerClock.linPeriod = t.linPeriod := by
  unfold Triangle.timerClock; split_ifs <;> rfl
@[simp] theorem Triangle.timerClock_linValue (t : Triangle) : t.timerClock.linValue = t.linValue := by
  unfold Triangle.timerClock; split_ifs <;> rfl
@[simp] theorem Triangle.timerClock_linReload (t : Triangle) : t.timerClock.linReload = t.linReload := by
  unfold Triangle.timerClock; split_ifs <;> rfl
@[simp] theorem Triangle.timerClock_lengthEnabled (t : Triangle) : t.timerClock.lengthEnabled = t.lengthEnabled := by
  unfold Triangle.timerClock; split_ifs <;> rfl
@[simp] theorem Triangle.timerClock_lengthValue (t : Triangle) : t.timerClock.lengthValue = t.lengthValue := by
  unfold Triangle.timerClock; split_ifs <;> rfl

/-! `Triangle.linClock` leaves these fields alone. -/

@[simp] theorem Triangle.linClock_timerPeriod (t : Triangle) : t.linClock.timerPeriod = t.timerPeriod := rfl
@[simp] theorem Triangle.linClock_timerCounter (t : Triangle) : t.linClock.timerCounter = t.timerCounter := rfl
@[simp] theorem Triangle.linClock_step (t : Triangle) : t.linClock.step = t.step := rfl
@[simp] theorem Triangle.linClock_linPeriod (t : Triangle) : t.linClock.linPeriod = t.linPeriod := rfl
@[simp] theorem Triangle.linClock_lengthEnabled (t : Triangle) : t.linClock.lengthEnabled = t.lengthEnabled := rfl
@[simp] theorem Triangle.linClock_lengthValue (t : Triangle) : t.linClock.lengthValue = t.lengthValue := rfl

/-! `Triangle.lengthClock` leaves these fields alone. -/

@[simp] theorem Triangle.lengthClock_timerPeriod (t : Triangle) : t.lengthClock.timerPeriod = t.timerPeriod := rfl
@[simp] theorem Triangle.lengthClock_timerCounter (t : Triangle) : t.lengthClock.timerCounter = t.timerCounter := rfl
@[simp] theorem Triangle.lengthClock_step (t : Triangle) : t.lengthClock.step = t.step := rfl
@[simp] theorem Triangle.lengthClock_linPeriod (t : Triangle) : t.lengthClock.linPeriod = t.linPeriod := rfl
@[simp] theorem Triangle.lengthClock_linValue (t : Triangle) : t.lengthClock.linValue = t.linValue := rfl
@[simp] theorem Triangle.lengthClock_linReload (t : Triangle) : t.lengthClock.linReload = t.linReload := rfl
@[simp] theorem Triangle.lengthClock_lengthEnabled (t : Triangle) : t.lengthClock.lengthEnabled = t.lengthEnabled := rfl

/-! What each does. -/

theorem Triangle.timerClock_timerCounter (t : Triangle) :
    t.timerClock.timerCounter = if t.timerCounter = 0 then t.timerPeriod else t.timerCounter - 1 := by
  unfold Triangle.timerClock; split_ifs <;> rfl

theorem Triangle.timerClock_step (t : Triangle) :
    t.timerClock.step =
      if t.timerCounter = 0 ∧ t.lengthValue ≠ 0#8 ∧ t.linValue ≠ 0#7 then t.step + 1 else t.step := by
  unfold Triangle.timerClock
  simp only [triangleSounds_iff]
  split_ifs <;> simp_all

theorem Triangle.linClock_linValue (t : Triangle) :
    t.linClock.linValue =
      if t.linReload then t.linPeriod else if t.linValue ≠ 0#7 then t.linValue - 1 else t.linValue := rfl

theorem Triangle.linClock_linReload (t : Triangle) :
    t.linClock.linReload = if t.lengthEnabled then false else t.linReload := rfl

theorem Triangle.lengthClock_lengthValue (t : Triangle) :
    t.lengthClock.lengthValue = lengthDown t.lengthEnabled t.lengthValue := rfl

/-! Legal values are kept. -/

theorem Triangle.timerClock_ok {cfg : Config} (hc : cfg.Legal) {t : Triangle} (h : t.Ok cfg) :
    t.timerClock.Ok cfg := by
  obtain ⟨hp, hk, hl⟩ := h
  refine ⟨by simpa using hp, ?_, by simpa using hl⟩
  have := elevenBits_lt hc.2.2.1 hp
  rw [t.timerClock_timerCounter]
  split_ifs <;> omega

theorem Triangle.linClock_ok {cfg : Config} {t : Triangle} (h : t.Ok cfg) : t.linClock.Ok cfg := h

theorem Triangle.lengthClock_ok {cfg : Config} {t : Triangle} (h : t.Ok cfg) : t.lengthClock.Ok cfg :=
  ⟨h.1, h.2.1, Nat.le_trans (lengthDown_le _ _) h.2.2⟩

theorem Triangle.writeCtrl_ok {cfg : Config} {t : Triangle} (h : t.Ok cfg) (v : Byte) :
    (t.writeCtrl v).Ok cfg := h

theorem Triangle.writeTimerLow_ok {cfg : Config} {t : Triangle} (h : t.Ok cfg) (v : Byte) :
    (t.writeTimerLow cfg.periodW v).Ok cfg := ⟨periodWithLow_le _ _ _ h.1, h.2⟩

theorem Triangle.writeTimerHigh_ok {cfg : Config} (hc : cfg.Legal) {t : Triangle} (h : t.Ok cfg)
    (v : Byte) : (t.writeTimerHigh cfg v).Ok cfg :=
  ⟨periodWithHigh_le _ _, h.2.1, lengthFor_le hc v⟩

theorem Triangle.reset_ok (cfg : Config) : Triangle.reset.Ok cfg :=
  ⟨by decide, Nat.two_pow_pos _, by decide⟩

/-! The output (42_triangle.md R190, R200). -/

/-- The waveform table is the formula of R190. -/
theorem triTable_get (i : BitVec 5) :
    (triTable.get i.toFin).toNat = if i.toNat ≤ 15 then 15 - i.toNat else i.toNat - 16 := by
  revert i; decide

theorem Triangle.output_toNat (t : Triangle) : t.output.toNat = triangleLevel t := by
  unfold Triangle.output triangleLevel
  by_cases h : triangleSounds t = true
  · have g := (triangleSounds_iff t).1 h
    rw [if_pos h, if_neg (by tauto), triTable_get]
  · have g : t.lengthValue = 0#8 ∨ t.linValue = 0#7 := by
      rw [triangleSounds_iff] at h; tauto
    rw [if_neg h, if_pos g]; rfl

theorem triangleLevel_le (t : Triangle) : triangleLevel t ≤ 15 := by
  have := t.output.isLt
  rw [t.output_toNat] at this
  omega

end Sys2Proof.Machine
end

