-- ==== Sys2Proof/Laws/Coordinator.lean ====
section
/-! SUPPORT. One advance, unit by unit: what it does to the coordinator and to each channel, each told from the
coordinator's state and that unit's own (40_coordinator.md R100, R105, R116). -/

namespace Sys2Proof.Machine

/-- The frame clock runs in the advance from coordinator state `a`. -/
def frameNow (cfg : Config) (a : Coordinator) : Bool := crosses a.cycle cfg.framePeriod

/-- A quarter clock runs in the advance from coordinator state `a`. -/
def quarterNow (cfg : Config) (a : Coordinator) : Bool :=
  frameNow cfg a && quarterAt a.frameMode a.frameStep

/-- A half clock runs in the advance from coordinator state `a`. -/
def halfNow (cfg : Config) (a : Coordinator) : Bool :=
  frameNow cfg a && halfAt a.frameMode a.frameStep

/-- The coordinator after one advance. -/
def Coordinator.advanced (cfg : Config) (a : Coordinator) : Coordinator :=
  { a with
    cycle := a.cycle + 1
    frameStep := if frameNow cfg a then stepAfter a.frameMode a.frameStep else a.frameStep }

/-- A pulse channel after the timer part of one advance. -/
def Pulse.timed (a : Coordinator) (p : Pulse) : Pulse :=
  if pulseTimersClocked a.cycle then p.timerClock else p

/-- A pulse channel after one advance. -/
def Pulse.advanced (cfg : Config) (a : Coordinator) (p : Pulse) : Pulse :=
  let q := if quarterNow cfg a then (p.timed a).envClock else p.timed a
  if halfNow cfg a then (q.sweepClock cfg.periodW).lengthClock else q

/-- The triangle channel after one advance. -/
def Triangle.advanced (cfg : Config) (a : Coordinator) (t : Triangle) : Triangle :=
  let q := if quarterNow cfg a then t.timerClock.linClock else t.timerClock
  if halfNow cfg a then q.lengthClock else q

/-- One advance, unit by unit. -/
theorem Block.advance_eq (cfg : Config) (b : Block) :
    b.advance cfg =
      { a := b.a.advanced cfg
        p1 := b.p1.advanced cfg b.a
        p2 := b.p2.advanced cfg b.a
        t := b.t.advanced cfg b.a } := by
  have ha : b.tick.a = { b.a with cycle := b.a.cycle + 1 } := rfl
  have h1 : b.tick.p1 = b.p1.timed b.a := rfl
  have h2 : b.tick.p2 = b.p2.timed b.a := rfl
  have ht : b.tick.t = b.t.timerClock := rfl
  cases hf : crosses b.a.cycle cfg.framePeriod with
  | false =>
    have hn : frameNow cfg b.a = false := hf
    simp only [Block.advance, hf, Coordinator.advanced, Pulse.advanced, Triangle.advanced, quarterNow, halfNow,
      hn, Bool.false_and, Bool.false_eq_true, if_false, ← ha, ← h1, ← h2, ← ht]
  | true =>
    have hn : frameNow cfg b.a = true := hf
    cases hq : quarterAt b.a.frameMode b.a.frameStep <;> cases hh : halfAt b.a.frameMode b.a.frameStep <;>
      simp [Block.advance, hf, Coordinator.advanced, Pulse.advanced, Triangle.advanced, quarterNow, halfNow, hn,
        hq, hh, Block.frameClock, Block.nextStep, Block.quarterClock, Block.halfClock, Block.setA, ha, h1, h2, ht]

@[simp] theorem Block.advance_a (cfg : Config) (b : Block) : (b.advance cfg).a = b.a.advanced cfg := by
  rw [b.advance_eq]
@[simp] theorem Block.advance_p1 (cfg : Config) (b : Block) :
    (b.advance cfg).p1 = b.p1.advanced cfg b.a := by rw [b.advance_eq]
@[simp] theorem Block.advance_p2 (cfg : Config) (b : Block) :
    (b.advance cfg).p2 = b.p2.advanced cfg b.a := by rw [b.advance_eq]
@[simp] theorem Block.advance_t (cfg : Config) (b : Block) :
    (b.advance cfg).t = b.t.advanced cfg b.a := by rw [b.advance_eq]

theorem Block.advance_pulse (cfg : Config) (b : Block) (c : PulseIx) :
    (b.advance cfg).pulse c = (b.pulse c).advanced cfg b.a := by
  cases c
  · exact b.advance_p1 cfg
  · exact b.advance_p2 cfg

/-- The interrupt of an advance, from the coordinator alone (40_coordinator.md R116). -/
theorem Block.advanceIrq_eq (cfg : Config) (b : Block) :
    b.advanceIrq cfg = (frameNow cfg b.a && irqAt b.a.frameMode b.a.frameStep b.a.irqEnabled) := rfl

/-! The coordinator after one advance. -/

@[simp] theorem Coordinator.advanced_cycle (cfg a) : (Coordinator.advanced cfg a).cycle = a.cycle + 1 := rfl
@[simp] theorem Coordinator.advanced_frameMode (cfg a) :
    (Coordinator.advanced cfg a).frameMode = a.frameMode := rfl
@[simp] theorem Coordinator.advanced_irqEnabled (cfg a) :
    (Coordinator.advanced cfg a).irqEnabled = a.irqEnabled := rfl
@[simp] theorem Coordinator.advanced_enP1 (cfg a) : (Coordinator.advanced cfg a).enP1 = a.enP1 := rfl
@[simp] theorem Coordinator.advanced_enP2 (cfg a) : (Coordinator.advanced cfg a).enP2 = a.enP2 := rfl
@[simp] theorem Coordinator.advanced_enTri (cfg a) : (Coordinator.advanced cfg a).enTri = a.enTri := rfl
theorem Coordinator.advanced_frameStep (cfg a) :
    (Coordinator.advanced cfg a).frameStep =
      if frameNow cfg a then stepAfter a.frameMode a.frameStep else a.frameStep := rfl

/-! A pulse channel after one advance: each field by the one clock that writes it. -/

@[simp] theorem Pulse.advanced_dutyMode (cfg a p) : (Pulse.advanced cfg a p).dutyMode = p.dutyMode := by
  unfold Pulse.advanced Pulse.timed; split_ifs <;> simp
@[simp] theorem Pulse.advanced_lengthEnabled (cfg a p) : (Pulse.advanced cfg a p).lengthEnabled = p.lengthEnabled := by
  unfold Pulse.advanced Pulse.timed; split_ifs <;> simp
@[simp] theorem Pulse.advanced_sweepEnabled (cfg a p) : (Pulse.advanced cfg a p).sweepEnabled = p.sweepEnabled := by
  unfold Pulse.advanced Pulse.timed; split_ifs <;> simp
@[simp] theorem Pulse.advanced_sweepNegate (cfg a p) : (Pulse.advanced cfg a p).sweepNegate = p.sweepNegate := by
  unfold Pulse.advanced Pulse.timed; split_ifs <;> simp
@[simp] theorem Pulse.advanced_sweepShift (cfg a p) : (Pulse.advanced cfg a p).sweepShift = p.sweepShift := by
  unfold Pulse.advanced Pulse.timed; split_ifs <;> simp
@[simp] theorem Pulse.advanced_sweepPeriod (cfg a p) : (Pulse.advanced cfg a p).sweepPeriod = p.sweepPeriod := by
  unfold Pulse.advanced Pulse.timed; split_ifs <;> simp
@[simp] theorem Pulse.advanced_envEnabled (cfg a p) : (Pulse.advanced cfg a p).envEnabled = p.envEnabled := by
  unfold Pulse.advanced Pulse.timed; split_ifs <;> simp
@[simp] theorem Pulse.advanced_envLoop (cfg a p) : (Pulse.advanced cfg a p).envLoop = p.envLoop := by
  unfold Pulse.advanced Pulse.timed; split_ifs <;> simp
@[simp] theorem Pulse.advanced_envPeriod (cfg a p) : (Pulse.advanced cfg a p).envPeriod = p.envPeriod := by
  unfold Pulse.advanced Pulse.timed; split_ifs <;> simp
@[simp] theorem Pulse.advanced_constVolume (cfg a p) : (Pulse.advanced cfg a p).constVolume = p.constVolume := by
  unfold Pulse.advanced Pulse.timed; split_ifs <;> simp

theorem Pulse.advanced_timerCounter (cfg a p) :
    (Pulse.advanced cfg a p).timerCounter = (p.timed a).timerCounter := by
  unfold Pulse.advanced; split_ifs <;> simp

theorem Pulse.advanced_dutyStep (cfg a p) :
    (Pulse.advanced cfg a p).dutyStep = (p.timed a).dutyStep := by
  unfold Pulse.advanced; split_ifs <;> simp

theorem Pulse.advanced_timerPeriod (cfg a p) :
    (Pulse.advanced cfg a p).timerPeriod =
      if halfNow cfg a then (p.sweepClock cfg.periodW).timerPeriod else p.timerPeriod := by
  unfold Pulse.advanced Pulse.timed
  split_ifs <;> simp [Pulse.sweepClock_timerPeriod, Pulse.sweepTarget]

theorem Pulse.advanced_sweepDivider (cfg a p) :
    (Pulse.advanced cfg a p).sweepDivider =
      if halfNow cfg a then (p.sweepClock cfg.periodW).sweepDivider else p.sweepDivider := by
  unfold Pulse.advanced Pulse.timed
  split_ifs <;> simp [Pulse.sweepClock_sweepDivider]

theorem Pulse.advanced_sweepReload (cfg a p) :
    (Pulse.advanced cfg a p).sweepReload = if halfNow cfg a then false else p.sweepReload := by
  unfold Pulse.advanced Pulse.timed
  split_ifs <;> simp

theorem Pulse.advanced_lengthValue (cfg a p) :
    (Pulse.advanced cfg a p).lengthValue =
      if halfNow cfg a then lengthDown p.lengthEnabled p.lengthValue else p.lengthValue := by
  unfold Pulse.advanced Pulse.timed
  split_ifs <;> simp [Pulse.lengthClock_lengthValue]

theorem Pulse.advanced_envStart (cfg a p) :
    (Pulse.advanced cfg a p).envStart = if quarterNow cfg a then p.envClock.envStart else p.envStart := by
  unfold Pulse.advanced Pulse.timed
  split_ifs <;> simp

theorem Pulse.advanced_envDivider (cfg a p) :
    (Pulse.advanced cfg a p).envDivider =
      if quarterNow cfg a then p.envClock.envDivider else p.envDivider := by
  unfold Pulse.advanced Pulse.timed
  split_ifs <;> simp [Pulse.envClock] <;> split_ifs <;> simp

theorem Pulse.advanced_envDecay (cfg a p) :
    (Pulse.advanced cfg a p).envDecay = if quarterNow cfg a then p.envClock.envDecay else p.envDecay := by
  unfold Pulse.advanced Pulse.timed
  split_ifs <;> simp [Pulse.envClock, Pulse.decayed] <;> split_ifs <;> simp

theorem Pulse.timed_ok {cfg : Config} {p : Pulse} (h : p.Ok cfg) (a : Coordinator) : (p.timed a).Ok cfg := by
  unfold Pulse.timed
  split_ifs
  · exact Pulse.timerClock_ok h
  · exact h

theorem Pulse.advanced_ok {cfg : Config} {p : Pulse} (h : p.Ok cfg) (a : Coordinator) :
    (p.advanced cfg a).Ok cfg := by
  have ht := Pulse.timed_ok h a
  have hq : (if quarterNow cfg a then (p.timed a).envClock else p.timed a).Ok cfg := by
    split_ifs
    · exact Pulse.envClock_ok ht
    · exact ht
  cases hh : halfNow cfg a with
  | true =>
    simp only [Pulse.advanced, hh, if_true]
    exact Pulse.lengthClock_ok (Pulse.sweepClock_ok hq)
  | false =>
    simp only [Pulse.advanced, hh, Bool.false_eq_true, if_false]
    exact hq

/-! The triangle after one advance. -/

@[simp] theorem Triangle.advanced_timerPeriod (cfg a t) :
    (Triangle.advanced cfg a t).timerPeriod = t.timerPeriod := by
  unfold Triangle.advanced; split_ifs <;> simp
@[simp] theorem Triangle.advanced_linPeriod (cfg a t) :
    (Triangle.advanced cfg a t).linPeriod = t.linPeriod := by
  unfold Triangle.advanced; split_ifs <;> simp
@[simp] theorem Triangle.advanced_lengthEnabled (cfg a t) :
    (Triangle.advanced cfg a t).lengthEnabled = t.lengthEnabled := by
  unfold Triangle.advanced; split_ifs <;> simp

theorem Triangle.advanced_timerCounter (cfg a t) :
    (Triangle.advanced cfg a t).timerCounter = t.timerClock.timerCounter := by
  unfold Triangle.advanced; split_ifs <;> simp

theorem Triangle.advanced_step (cfg a t) :
    (Triangle.advanced cfg a t).step = t.timerClock.step := by
  unfold Triangle.advanced; split_ifs <;> simp

theorem Triangle.advanced_linValue (cfg a t) :
    (Triangle.advanced cfg a t).linValue = if quarterNow cfg a then t.linClock.linValue else t.linValue := by
  unfold Triangle.advanced
  split_ifs <;> simp [Triangle.linClock_linValue]

theorem Triangle.advanced_linReload (cfg a t) :
    (Triangle.advanced cfg a t).linReload =
      if quarterNow cfg a then t.linClock.linReload else t.linReload := by
  unfold Triangle.advanced
  split_ifs <;> simp [Triangle.linClock_linReload]

theorem Triangle.advanced_lengthValue (cfg a t) :
    (Triangle.advanced cfg a t).lengthValue =
      if halfNow cfg a then lengthDown t.lengthEnabled t.lengthValue else t.lengthValue := by
  unfold Triangle.advanced
  split_ifs <;> simp [Triangle.lengthClock_lengthValue]

theorem Triangle.advanced_ok {cfg : Config} (hc : cfg.Legal) {t : Triangle} (h : t.Ok cfg)
    (a : Coordinator) : (t.advanced cfg a).Ok cfg := by
  have ht := Triangle.timerClock_ok hc h
  unfold Triangle.advanced
  split_ifs
  · exact Triangle.lengthClock_ok (Triangle.linClock_ok ht)
  · exact Triangle.linClock_ok ht
  · exact Triangle.lengthClock_ok ht
  · exact ht

/-! The events of Safety.lean, as the machine decides them. -/

theorem quarterEvent_iff (s : State) : s.QuarterEvent ↔ quarterNow s.cfg s.blk.a = true := by
  rw [State.QuarterEvent, frameEvent_iff, ← quarterAt_iff s.blk.a.frameMode]
  simp [quarterNow, frameNow]

theorem halfEvent_iff (s : State) : s.HalfEvent ↔ halfNow s.cfg s.blk.a = true := by
  rw [State.HalfEvent, frameEvent_iff, ← halfAt_iff]
  simp [halfNow, frameNow]

/-! The mixer (40_coordinator.md R117). -/

theorem Block.mixSum_eq (cfg : Config) (b : Block) : b.mixSum cfg = mixedLevels cfg b := by
  simp [Block.mixSum, mixedLevels, Pulse.output_toNat, Triangle.output_toNat]

theorem mixedLevels_le (cfg : Config) (b : Block) : mixedLevels cfg b ≤ 45 := by
  have h1 := pulseLevel_le cfg b.p1
  have h2 := pulseLevel_le cfg b.p2
  have h3 := triangleLevel_le b.t
  unfold mixedLevels
  split_ifs <;> omega

/-- The mixed sample never wraps: the sum of three levels divided by 3 fits 4 bits (40_coordinator.md R124). -/
theorem Block.mix_toNat (cfg : Config) (b : Block) : (b.mix cfg).toNat = mixedLevels cfg b / 3 := by
  have := mixedLevels_le cfg b
  rw [Block.mix, b.mixSum_eq, BitVec.toNat_ofNat]
  omega

end Sys2Proof.Machine
end

