-- ==== Sys2Proof/Laws/Decode.lean ====
section
/-! SUPPORT. The fields of a transaction word: what `transaction` puts in them, and that they are the whole
word. -/

namespace Sys2Proof

/-- Bit `k` of a word is a bit of the field that covers it (30_encoding.md R70). -/
theorem getLsbD_transaction (op : BitVec 2) (addr : Addr) (v : Byte) (k : Nat) :
    (transaction op addr v).getLsbD k =
      if k < 8 then v.getLsbD k else if k < 24 then addr.getLsbD (k - 8) else op.getLsbD (k - 24) := by
  have h := BitVec.getLsbD_append (x := op ++ addr) (y := v) (i := k)
  have g := BitVec.getLsbD_append (x := op) (y := addr) (i := k - 8)
  rw [show (transaction op addr v).getLsbD k = (op ++ addr ++ v).getLsbD k from rfl, h, g]
  by_cases h8 : k < 8
  · simp [h8]
  · by_cases h24 : k < 24
    · simp [h8, h24, show k - 8 < 16 by omega]
    · simp [h8, h24, show ¬ k - 8 < 16 by omega, show k - 8 - 16 = k - 24 by omega]

@[simp] theorem opField_transaction (op : BitVec 2) (addr : Addr) (v : Byte) :
    opField (transaction op addr v) = op := by
  ext k hk
  simp [opField, getLsbD_transaction, hk, show ¬ 24 + k < 8 by omega]

@[simp] theorem addrField_transaction (op : BitVec 2) (addr : Addr) (v : Byte) :
    addrField (transaction op addr v) = addr := by
  ext k hk
  simp [addrField, getLsbD_transaction, hk, show 8 + k < 24 by omega]

@[simp] theorem dataField_transaction (op : BitVec 2) (addr : Addr) (v : Byte) :
    dataField (transaction op addr v) = v := by
  ext k hk
  simp [dataField, getLsbD_transaction, hk]

/-- The three fields are the whole word: no bit of it is dropped (30_encoding.md R70). -/
theorem transaction_fields (w : TWord) : transaction (opField w) (addrField w) (dataField w) = w := by
  apply BitVec.eq_of_getLsbD_eq
  intro k hk
  rw [getLsbD_transaction]
  simp only [opField, addrField, dataField, BitVec.getLsbD_extractLsb']
  grind

/-- The four values of `op` (30_encoding.md R71). -/
theorem op_cases (op : BitVec 2) : op = 0#2 ∨ op = 1#2 ∨ op = 2#2 ∨ op = 3#2 := by
  revert op; decide

/-- An unmapped address decodes to the unmapped write (30_encoding.md R73). -/
theorem decodeWrite_unmapped (addr : Addr) (v : Byte) (h : addr ∉ mappedWriteAddrs) :
    decodeWrite addr v = .wrUnmapped addr v := by
  simp only [mappedWriteAddrs, List.mem_cons, List.not_mem_nil, not_or] at h
  obtain ⟨h0, h1, h2, h3, h4, h5, h6, h7, h8, hA, hB, h15, h17, -⟩ := h
  simp only [decodeWrite, if_neg h0, if_neg h1, if_neg h2, if_neg h3, if_neg h4, if_neg h5, if_neg h6,
    if_neg h7, if_neg h8, if_neg hA, if_neg hB, if_neg h15, if_neg h17]

/-- Every write decodes to a well-formed operation (30_encoding.md R72: every `WR` word is legal). -/
theorem decodeWrite_wf (addr : Addr) (v : Byte) : (decodeWrite addr v).wf = true := by
  by_cases h : addr ∈ mappedWriteAddrs
  · simp only [mappedWriteAddrs, List.mem_cons, List.not_mem_nil, or_false] at h
    rcases h with rfl | rfl | rfl | rfl | rfl | rfl | rfl | rfl | rfl | rfl | rfl | rfl | rfl <;> rfl
  · simp [decodeWrite_unmapped addr v h, Instr.wf, h]

/-- The write decoded from an address is written back with that address. -/
theorem encode_decodeWrite (addr : Addr) (v : Byte) :
    encode (decodeWrite addr v) = transaction 0b01 addr v := by
  by_cases h : addr ∈ mappedWriteAddrs
  · simp only [mappedWriteAddrs, List.mem_cons, List.not_mem_nil, or_false] at h
    rcases h with rfl | rfl | rfl | rfl | rfl | rfl | rfl | rfl | rfl | rfl | rfl | rfl | rfl <;> rfl
  · simp [decodeWrite_unmapped addr v h, encode]

theorem decodeRead_wf (addr : Addr) : (decodeRead addr).wf = true := by
  unfold decodeRead; split <;> simp_all [Instr.wf]

theorem encode_decodeRead (addr : Addr) : encode (decodeRead addr) = transaction 0b10 addr 0x00 := by
  unfold decodeRead; split <;> simp_all [encode, statusAddr]

/-- What each kind of word decodes to, by its fields (30_encoding.md R71 to R73). -/
theorem decode_transaction (op : BitVec 2) (addr : Addr) (v : Byte) :
    decode (transaction op addr v) =
      if op = 0#2 then if addr = 0#16 ∧ v = 0#8 then .ok .adv else .error .advReservedNonzero
      else if op = 1#2 then .ok (decodeWrite addr v)
      else if op = 2#2 then if v = 0#8 then .ok (decodeRead addr) else .error .rdReservedNonzero
      else if addr = 0#16 ∧ v = 0#8 then .ok .rst else .error .rstReservedNonzero := by
  simp [decode]

/-- A word that fits 26 bits is the word of its number. -/
theorem wordOfNat_toNat (w : TWord) : wordOfNat w.toNat = some w := by
  simp [wordOfNat, w.isLt]

end Sys2Proof
end

