-- ==== Sys2Proof/Laws/Exec.lean ====
section
/-! SUPPORT. Every operation completes, with the next state as a function of the state; runs of operations. -/

namespace Sys2Proof.Machine

/-- The next state of each operation. -/
def State.after (s : State) : Instr → State
  | .adv => s.conclude (s.blk.advance s.cfg)
      (advanceOutputs (s.blk.advanceIrq s.cfg) (s.blk.advanceSample s.cfg))
      (sinkTakes s.sinkReady (s.blk.advanceSample s.cfg))
  | .wrP1Ctrl v => pulseCtrlWrite .one v s
  | .wrP1Sweep v => pulseSweepWrite .one v s
  | .wrP1Tlo v => pulseTimerLowWrite .one v s
  | .wrP1Thi v => pulseTimerHighWrite .one v s
  | .wrP2Ctrl v => pulseCtrlWrite .two v s
  | .wrP2Sweep v => pulseSweepWrite .two v s
  | .wrP2Tlo v => pulseTimerLowWrite .two v s
  | .wrP2Thi v => pulseTimerHighWrite .two v s
  | .wrTriCtrl v => s.settle (s.blk.setT (s.blk.t.writeCtrl v))
  | .wrTriTlo v => s.settle (s.blk.setT (s.blk.t.writeTimerLow s.cfg.periodW v))
  | .wrTriThi v => s.settle (s.blk.setT (s.blk.t.writeTimerHigh s.cfg v))
  | .wrApuEnable v => s.settle (s.blk.setA (s.blk.a.writeEnable v))
  | .wrFrameCtrl v => s.settle (s.blk.setA (s.blk.a.writeFrame v))
  | .wrUnmapped _ _ => s.settle s.blk
  | .rdStatus => s.settle s.blk
  | .rdOther _ => s.settle s.blk
  | .rst => s.settle (Block.reset s.cfg)

/-- The meaning of an operation is its next state (60_exceptions.md R220). -/
theorem exec_eq (i : Instr) (s : State) : exec i s = .next (s.after i) := by
  cases i <;> rfl

theorem exec_next_iff (i : Instr) (s t : State) : exec i s = .next t ↔ s.after i = t := by
  rw [exec_eq]; simp

/-- An operation other than `ADV` ends with every port at 0 and nothing delivered. -/
theorem State.after_settles (s : State) (i : Instr) (h : i ≠ .adv) :
    s.after i = s.settle (s.after i).blk := by
  cases i <;> first | rfl | exact absurd rfl h

@[simp] theorem State.after_cfg (s : State) (i : Instr) : (s.after i).cfg = s.cfg := by cases i <;> rfl
@[simp] theorem State.after_pending (s : State) (i : Instr) : (s.after i).pending = s.pending := by
  cases i <;> rfl
@[simp] theorem State.after_sinkReady (s : State) (i : Instr) : (s.after i).sinkReady = s.sinkReady := by
  cases i <;> rfl
@[simp] theorem State.after_sinkAttached (s : State) (i : Instr) :
    (s.after i).sinkAttached = s.sinkAttached := by
  cases i <;> rfl

@[simp] theorem State.after_adv_blk (s : State) : (s.after .adv).blk = s.blk.advance s.cfg := rfl
@[simp] theorem State.after_adv_irq (s : State) : (s.after .adv).out.irq = s.blk.advanceIrq s.cfg := rfl
@[simp] theorem State.after_adv_rdata (s : State) : (s.after .adv).out.rdata = 0#8 := rfl

theorem State.after_adv_out (s : State) :
    (s.after .adv).out = advanceOutputs (s.blk.advanceIrq s.cfg) (s.blk.advanceSample s.cfg) := rfl

theorem State.after_adv_delivered (s : State) :
    (s.after .adv).delivered = sinkTakes s.sinkReady (s.blk.advanceSample s.cfg) := rfl

@[simp] theorem State.after_adv_sampleValid (s : State) :
    (s.after .adv).out.sampleValid = crosses s.blk.a.cycle s.cfg.samplePeriod := by
  rw [s.after_adv_out, advanceOutputs_sampleValid, Block.advanceSample]
  split_ifs <;> simp_all

/-- The block after an operation depends on the configuration and the block alone: the sink, the ports and the
host's list do not reach it. -/
theorem State.after_blk_congr {s s' : State} (hc : s'.cfg = s.cfg) (hb : s'.blk = s.blk) (i : Instr) :
    (s'.after i).blk = (s.after i).blk := by
  cases i <;>
    simp [State.after, pulseCtrlWrite, pulseSweepWrite, pulseTimerLowWrite, pulseTimerHighWrite, hc, hb]

/-- A run of operations ends in the state its operations make one after another. -/
theorem execAll_eq (is : List Instr) (s : State) : execAll is s = .next (is.foldl State.after s) := by
  induction is generalizing s with
  | nil => rfl
  | cons i is ih => simp only [execAll, exec_eq, List.foldl_cons, ih]

/-- A property that every operation of a run keeps holds at its end. -/
theorem foldl_after_induction {P : State → Prop} (is : List Instr) (s : State) (h0 : P s)
    (hstep : ∀ i ∈ is, ∀ t, P t → P (t.after i)) : P (is.foldl State.after s) := by
  induction is generalizing s with
  | nil => exact h0
  | cons i is ih =>
    exact ih _ (hstep i (List.mem_cons_self ..) s h0) fun j hj => hstep j (List.mem_cons_of_mem _ hj)

/-- Counting over advances, one advance at a time. -/
theorem countAdvances_succ (f : State → State → Bool) (n : Nat) (s : State) :
    countAdvances f (n + 1) s = (if f s (s.after .adv) then 1 else 0) + countAdvances f n (s.after .adv) := by
  simp only [countAdvances, exec_eq]

/-- Crossings over one more advance, taken at the front. -/
theorem crossingsOver_succ (p : Ratio) (c n : Nat) (h : p.AtLeastOne) :
    crossingsOver p c (n + 1) = (if crosses c p then 1 else 0) + crossingsOver p (c + 1) n := by
  have h1 := periodsPassed_succ p c h
  have h2 := periodsPassed_mono p (show c + 1 ≤ c + 1 + n by omega)
  unfold crossingsOver
  unfold periodsPassed at h1 h2
  rw [show c + (n + 1) = c + 1 + n by omega]
  omega

end Sys2Proof.Machine
end

