-- ==== Sys2Proof/Laws/PerInstr.lean ====
section
/-! SUPPORT. For every operation: the word it is written as meets the `match` and `mask` of its row of
spec/opcode_table.json (30_encoding.md R90). -/

namespace Sys2Proof.Laws.RowFit

/-- The word of an operation fits its row. -/
def Statement (i : Instr) : Prop := encode i &&& rowMask i = rowMatch i

/-- A mask that leaves only the data free keeps `op` and `addr`. -/
theorem dataFree (op : BitVec 2) (addr : Addr) (v : Byte) :
    transaction op addr v &&& 0x3FFFF00#26 = transaction op addr 0 := by
  apply BitVec.eq_of_getLsbD_eq
  intro k hk
  rw [BitVec.getLsbD_and, getLsbD_transaction, getLsbD_transaction]
  interval_cases k <;> simp

/-- A mask of the field `op` alone keeps `op`. -/
theorem opOnly (op : BitVec 2) (addr : Addr) (v : Byte) :
    transaction op addr v &&& 0x3000000#26 = transaction op 0 0 := by
  apply BitVec.eq_of_getLsbD_eq
  intro k hk
  rw [BitVec.getLsbD_and, getLsbD_transaction, getLsbD_transaction]
  interval_cases k <;> simp

/-- A mask that leaves only the address free keeps `op` and the data. -/
theorem addrFree (op : BitVec 2) (addr : Addr) (v : Byte) :
    transaction op addr v &&& 0x30000FF#26 = transaction op 0 v := by
  apply BitVec.eq_of_getLsbD_eq
  intro k hk
  rw [BitVec.getLsbD_and, getLsbD_transaction, getLsbD_transaction]
  interval_cases k <;> simp

theorem adv : Statement .adv := rfl
theorem wrP1Ctrl (v : Byte) : Statement (.wrP1Ctrl v) := dataFree _ _ v
theorem wrP1Sweep (v : Byte) : Statement (.wrP1Sweep v) := dataFree _ _ v
theorem wrP1Tlo (v : Byte) : Statement (.wrP1Tlo v) := dataFree _ _ v
theorem wrP1Thi (v : Byte) : Statement (.wrP1Thi v) := dataFree _ _ v
theorem wrP2Ctrl (v : Byte) : Statement (.wrP2Ctrl v) := dataFree _ _ v
theorem wrP2Sweep (v : Byte) : Statement (.wrP2Sweep v) := dataFree _ _ v
theorem wrP2Tlo (v : Byte) : Statement (.wrP2Tlo v) := dataFree _ _ v
theorem wrP2Thi (v : Byte) : Statement (.wrP2Thi v) := dataFree _ _ v
theorem wrTriCtrl (v : Byte) : Statement (.wrTriCtrl v) := dataFree _ _ v
theorem wrTriTlo (v : Byte) : Statement (.wrTriTlo v) := dataFree _ _ v
theorem wrTriThi (v : Byte) : Statement (.wrTriThi v) := dataFree _ _ v
theorem wrApuEnable (v : Byte) : Statement (.wrApuEnable v) := dataFree _ _ v
theorem wrFrameCtrl (v : Byte) : Statement (.wrFrameCtrl v) := dataFree _ _ v
theorem wrUnmapped (addr : Addr) (v : Byte) : Statement (.wrUnmapped addr v) := opOnly _ addr v
theorem rdStatus : Statement .rdStatus := rfl
theorem rdOther (addr : Addr) : Statement (.rdOther addr) := addrFree _ addr _
theorem rst : Statement .rst := rfl

end Sys2Proof.Laws.RowFit
end

