-- ==== Sys2Proof/Laws/Step.lean ====
section
/-! SUPPORT. Everything one step can do. -/

namespace Sys2Proof.Machine

/-- A step that completes ran in a legal configuration, and either idled, attached a sink, or ran the decoded
operation of the first word presented. -/
theorem step_cases {s t : State} (h : step s = .next t) :
    s.cfg.Legal ∧
      ((s.pending = [] ∧ t = s.idle) ∨
       (∃ rest, s.pending = .attachSink :: rest ∧ t = (s.take rest).attach) ∨
       (∃ w ready rest i, s.pending = .operation w ready :: rest ∧ decode w = .ok i ∧
          t = ((s.take rest).drive ready).after i)) := by
  unfold step at h
  split_ifs at h with hc
  refine ⟨hc, ?_⟩
  unfold stepEvent at h
  split at h
  · next hp => exact .inl ⟨hp, by simpa using h.symm⟩
  · next rest hp => exact .inr (.inl ⟨rest, hp, by simpa using h.symm⟩)
  · next w ready rest hp =>
    unfold runWord at h
    split at h
    · next i hd => exact .inr (.inr ⟨w, ready, rest, i, hp, hd, ((exec_next_iff ..).1 h).symm⟩)
    · cases h

/-- A step with a word presented, in a legal configuration, runs that word. -/
theorem step_operation {s : State} {w : TWord} {ready : Bool} {rest : List HostEvent} (hc : s.cfg.Legal)
    (hp : s.pending = .operation w ready :: rest) : step s = runWord w ready (s.take rest) := by
  simp [step, hc, stepEvent, hp]

end Sys2Proof.Machine
end

