-- ==== Sys2Proof/Tests/Slice0.lean ====
section
/-! SUPPORT. The model's own tests. Expected values come from 95_test_vectors.md (each test names its vector) or
from the rule it names; a witness theorem shows a concrete input that meets a statement's hypotheses. -/

namespace Sys2Proof.Tests

open Sys2Proof.Machine

/-! ## Well-formedness: ill-formed terms are refused -/

theorem test_wf_refuses_unmapped_write_at_a_register : (Instr.wrUnmapped 0x4000 0xBF).wf = false := by decide
theorem test_wf_refuses_unmapped_write_at_the_last_register : (Instr.wrUnmapped 0x4017 0x00).wf = false := by decide
theorem test_wf_refuses_other_read_at_status : (Instr.rdOther 0x4015).wf = false := by decide
theorem test_wf_accepts_unmapped_write_at_0x4009 : (Instr.wrUnmapped 0x4009 0xFF).wf = true := by decide
theorem test_wf_accepts_other_read_at_0x4003 : (Instr.rdOther 0x4003).wf = true := by decide

/-! ## Decoding: the words of 95_test_vectors.md section 2 -/

theorem test_decode_adv : decode 0x0000000 = .ok .adv := rfl
theorem test_decode_rst : decode 0x3000000 = .ok .rst := rfl
theorem test_decode_rd_status : decode 0x2401500 = .ok .rdStatus := rfl
theorem test_decode_rd_other : decode 0x2400300 = .ok (.rdOther 0x4003) := rfl
theorem test_decode_wr_p1_ctrl : decode 0x14000BF = .ok (.wrP1Ctrl 0xBF) := rfl
theorem test_decode_wr_p1_sweep : decode 0x1400189 = .ok (.wrP1Sweep 0x89) := rfl
theorem test_decode_wr_p1_tlo : decode 0x14002AB = .ok (.wrP1Tlo 0xAB) := rfl
theorem test_decode_wr_p1_thi : decode 0x1400303 = .ok (.wrP1Thi 0x03) := rfl
theorem test_decode_wr_p2_ctrl : decode 0x1400430 = .ok (.wrP2Ctrl 0x30) := rfl
theorem test_decode_wr_p2_sweep : decode 0x140057F = .ok (.wrP2Sweep 0x7F) := rfl
theorem test_decode_wr_p2_tlo : decode 0x1400608 = .ok (.wrP2Tlo 0x08) := rfl
theorem test_decode_wr_p2_thi : decode 0x1400718 = .ok (.wrP2Thi 0x18) := rfl
theorem test_decode_wr_tri_ctrl : decode 0x1400881 = .ok (.wrTriCtrl 0x81) := rfl
theorem test_decode_wr_tri_tlo : decode 0x1400A00 = .ok (.wrTriTlo 0x00) := rfl
theorem test_decode_wr_tri_thi : decode 0x1400B08 = .ok (.wrTriThi 0x08) := rfl
theorem test_decode_wr_apu_enable : decode 0x1401505 = .ok (.wrApuEnable 0x05) := rfl
theorem test_decode_wr_frame_ctrl : decode 0x14017C0 = .ok (.wrFrameCtrl 0xC0) := rfl
theorem test_decode_wr_unmapped_4009 : decode 0x14009FF = .ok (.wrUnmapped 0x4009 0xFF) := rfl
theorem test_decode_wr_unmapped_400c : decode 0x1400CFF = .ok (.wrUnmapped 0x400C 0xFF) := rfl
theorem test_decode_wr_unmapped_4016 : decode 0x1401601 = .ok (.wrUnmapped 0x4016 0x01) := rfl
theorem test_decode_wr_unmapped_2000 : decode 0x1200000 = .ok (.wrUnmapped 0x2000 0x00) := rfl
theorem test_decode_refuses_adv_data : decode 0x0000001 = .error .advReservedNonzero := rfl
theorem test_decode_refuses_adv_addr : decode 0x0400000 = .error .advReservedNonzero := rfl
theorem test_decode_refuses_rst_addr : decode 0x3000100 = .error .rstReservedNonzero := rfl
theorem test_decode_refuses_rd_data : decode 0x2401501 = .error .rdReservedNonzero := rfl

/-- `WR_P1_THI` with its word written field by field: `op` 01, `addr` 0x4003, `data` 00001 001 (30_encoding.md R70,
R80). -/
theorem test_decode_fields_in_their_places :
    decode (0b01#2 ++ 0b0100000000000011#16 ++ 0b00001#5 ++ 0b001#3) = .ok (.wrP1Thi 0x09) := rfl

/-- One operation per row of 30_encoding.md R90 that no mask leaves to another row. -/
def fullRows : List Instr :=
  [.adv, .wrP1Ctrl 0, .wrP1Sweep 0, .wrP1Tlo 0, .wrP1Thi 0, .wrP2Ctrl 0, .wrP2Sweep 0, .wrP2Tlo 0, .wrP2Thi 0,
   .wrTriCtrl 0, .wrTriTlo 0, .wrTriThi 0, .wrApuEnable 0, .wrFrameCtrl 0, .rdStatus, .rst]

/-- Two rows overlap only if they agree where both masks are set; no two rows but the two of lowest priority do. -/
theorem test_rows_do_not_overlap :
    fullRows.Pairwise fun i j => rowMatch i &&& rowMask j ≠ rowMatch j &&& rowMask i := by decide

theorem test_decode_table_word : decodeTableWord 32 0x14000BF = some (.wrP1Ctrl 0xBF) := rfl
theorem test_decode_table_word_refuses_high_bits : decodeTableWord 32 0x8000000 = none := rfl
theorem test_decode_table_word_refuses_reserved : decodeTableWord 32 0x3000100 = none := rfl

/-! ## States to test on -/

/-- The next state, if there is one. -/
def nextOf : Host.Outcome State Fault Refusal → Option State
  | .next s => some s
  | .fault _ => none
  | .refused _ => none

/-- Why a step is refused, if it is. -/
def refusalOf : Host.Outcome State Fault Refusal → Option Refusal
  | .next _ => none
  | .fault _ => none
  | .refused r => some r

/-- After reset, with the coordinator changed. -/
def withA (a : Coordinator) : State := { State.reset with blk := { State.reset.blk with a := a } }
/-- After reset, with pulse channel 1 changed. -/
def withP1 (p : Pulse) : State := { State.reset with blk := { State.reset.blk with p1 := p } }
/-- After reset, with the triangle channel changed. -/
def withT (t : Triangle) : State := { State.reset with blk := { State.reset.blk with t := t } }
/-- After reset, with the host's list changed. -/
def withPending (es : List HostEvent) : State := { State.reset with pending := es }
/-- The coordinator at a count, a mode and a step, with the interrupt enabled. -/
def at_ (cycle : Nat) (mode : FrameMode) (i : BitVec 3) : Coordinator :=
  { State.reset.blk.a with cycle := cycle, frameMode := mode, frameStep := i, irqEnabled := true }
/-- The coordinator after reset. -/
def a0 : Coordinator := State.reset.blk.a
/-- A pulse channel after reset. -/
def p0 : Pulse := Pulse.reset
/-- A triangle channel after reset. -/
def t0 : Triangle := Triangle.reset
/-- A pulse channel that sounds at level 15 (95_test_vectors.md W2). -/
def loud : Pulse := { p0 with lengthValue := 1, constVolume := 15, dutyMode := 3, timerPeriod := 0x100 }
/-- A triangle that sounds, held (95_test_vectors.md V22). -/
def held : Triangle :=
  { t0 with lengthValue := 254, linValue := 1, linPeriod := 1, linReload := true, timerPeriod := 1 }

/-! ## One step of each operation -/

/-- V2, first advance. -/
theorem test_adv_first : (nextOf (exec .adv State.reset)).map
    (fun t => (t.blk.a.cycle, t.blk.p1.dutyStep, t.blk.p2.dutyStep, t.blk.t.step)) = some (1, 1, 1, 0) := by decide
/-- W6 and program C: the fourth frame clock, in the `ADV` that reaches 29830, raises the interrupt. -/
theorem test_adv_interrupt : (nextOf (exec .adv (withA (at_ 29829 .fourStep 3)))).map
    (fun t => (t.out.irq, t.blk.a.frameStep)) = some (true, 0) := by decide
/-- W8. -/
theorem test_wr_p1_ctrl : (nextOf (exec (.wrP1Ctrl 0xBF) State.reset)).map (fun t => t.blk.p1) =
    some { p0 with dutyMode := 2, lengthEnabled := false, envLoop := true, envEnabled := false, constVolume := 15,
                   envPeriod := 15, envStart := true } := by decide
/-- 41_pulse.md R146, example. -/
theorem test_wr_p1_sweep : (nextOf (exec (.wrP1Sweep 0x89) State.reset)).map (fun t => t.blk.p1) =
    some { p0 with sweepEnabled := true, sweepPeriod := 0, sweepNegate := true, sweepShift := 1,
                   sweepReload := true } := by decide
/-- 41_pulse.md R148, example. -/
theorem test_wr_p1_tlo : (nextOf (exec (.wrP1Tlo 0xAB) (withP1 { p0 with timerPeriod := 0x300 }))).map
    (fun t => t.blk.p1.timerPeriod) = some 0x3AB := by decide
/-- 92_eei_decisions.md D5: bits above 10 stay. -/
theorem test_wr_p1_tlo_keeps_high_bits : (nextOf (exec (.wrP1Tlo 0xAB) (withP1 { p0 with timerPeriod := 0xF3FF }))).map
    (fun t => t.blk.p1.timerPeriod) = some 0xF3AB := by decide
/-- W3. -/
theorem test_wr_p1_thi : (nextOf (exec (.wrP1Thi 0x0B) (withP1 { p0 with timerPeriod := 0x0AB, dutyStep := 5 }))).map
    (fun t => t.blk.p1) =
    some { p0 with lengthValue := 254, timerPeriod := 0x3AB, timerCounter := 0x3AB, dutyStep := 0,
                   envStart := true } := by decide
/-- Program E, line 8: the high write ends a sweep overflow. -/
theorem test_wr_p1_thi_ends_overflow : (nextOf (exec (.wrP1Thi 0x0F) (withP1 { p0 with timerPeriod := 0xFFE }))).map
    (fun t => (t.blk.p1.timerPeriod, t.blk.p1.timerCounter)) = some (0x7FE, 0x7FE) := by decide
/-- 41_pulse.md R145, example: bit 5 of 0x30 is set, so the length counter halts and the envelope loops. -/
theorem test_wr_p2_ctrl : (nextOf (exec (.wrP2Ctrl 0x30) State.reset)).map (fun t => (t.blk.p1, t.blk.p2)) =
    some (p0, { p0 with envLoop := true, envStart := true }) := by decide
/-- 30_encoding.md R77 by hand: bit 5 of 0xD5 is clear (V10 prints the values of a byte with bit 5 set, log 19). -/
theorem test_wr_p2_ctrl_bit_five_clear : (nextOf (exec (.wrP2Ctrl 0xD5) State.reset)).map (fun t => t.blk.p2) =
    some { p0 with dutyMode := 3, lengthEnabled := true, envPeriod := 5, constVolume := 5,
                   envStart := true } := by decide
/-- 41_pulse.md R147, example. -/
theorem test_wr_p2_sweep : (nextOf (exec (.wrP2Sweep 0x7F) State.reset)).map (fun t => (t.blk.p1, t.blk.p2)) =
    some (p0, { p0 with sweepPeriod := 7, sweepNegate := true, sweepShift := 7, sweepReload := true }) := by decide
/-- 41_pulse.md R149, example. -/
theorem test_wr_p2_tlo : (nextOf (exec (.wrP2Tlo 0x08) State.reset)).map
    (fun t => (t.blk.p1.timerPeriod, t.blk.p2.timerPeriod)) = some (0, 8) := by decide
/-- 41_pulse.md R151, example. -/
theorem test_wr_p2_thi : (nextOf (exec (.wrP2Thi 0x08) State.reset)).map
    (fun t => (t.blk.p1.lengthValue, t.blk.p2.lengthValue, t.blk.p2.timerPeriod)) = some (0, 254, 0) := by decide
/-- V19. -/
theorem test_wr_tri_ctrl_hold : (nextOf (exec (.wrTriCtrl 0x81) State.reset)).map (fun t => t.blk.t) =
    some { t0 with lengthEnabled := false, linPeriod := 1 } := by decide
/-- V19. -/
theorem test_wr_tri_ctrl_count : (nextOf (exec (.wrTriCtrl 0x7F) State.reset)).map (fun t => t.blk.t) =
    some { t0 with lengthEnabled := true, linPeriod := 127 } := by decide
/-- 42_triangle.md R193, example. -/
theorem test_wr_tri_tlo : (nextOf (exec (.wrTriTlo 0xAB) (withT { t0 with timerPeriod := 0x300 }))).map
    (fun t => t.blk.t.timerPeriod) = some 0x3AB := by decide
/-- 42_triangle.md R194, example, and V19: neither the timer nor the step restarts. -/
theorem test_wr_tri_thi : (nextOf (exec (.wrTriThi 0x0B)
    (withT { t0 with timerPeriod := 0x0AB, timerCounter := 7, step := 9 }))).map (fun t => t.blk.t) =
    some { t0 with timerPeriod := 0x3AB, timerCounter := 7, step := 9, lengthValue := 254,
                   linReload := true } := by decide
/-- V3. -/
theorem test_wr_apu_enable : (nextOf (exec (.wrApuEnable 0xFA) State.reset)).map (fun t => t.blk.a) =
    some { a0 with enP1 := false, enP2 := true, enTri := false } := by decide
/-- V4 and V5: the step index stays. -/
theorem test_wr_frame_ctrl_five : (nextOf (exec (.wrFrameCtrl 0xFF) (withA { a0 with frameStep := 2 }))).map
    (fun t => t.blk.a) = some { a0 with frameMode := .fiveStep, irqEnabled := false, frameStep := 2 } := by decide
/-- V4. -/
theorem test_wr_frame_ctrl_four : (nextOf (exec (.wrFrameCtrl 0x00) State.reset)).map (fun t => t.blk.a) =
    some { a0 with frameMode := .fourStep, irqEnabled := true } := by decide
/-- 40_coordinator.md R121, example. -/
theorem test_wr_unmapped : (nextOf (exec (.wrUnmapped 0x400C 0xFF) (withP1 loud))).map (fun t => t.blk) =
    some (withP1 loud).blk := by decide
/-- V8. -/
theorem test_rd_status : (nextOf (exec .rdStatus (withP1 loud))).map (fun t => (t.out.rdata, t.blk)) =
    some (0x00, (withP1 loud).blk) := by decide
/-- V8. -/
theorem test_rd_other : (nextOf (exec (.rdOther 0x4000) (withP1 loud))).map (fun t => (t.out.rdata, t.blk)) =
    some (0x00, (withP1 loud).blk) := by decide
/-- V25, with the suggested mask 0b000. -/
theorem test_rst : (nextOf (exec .rst (withP1 loud))).map (fun t => t.blk) = some (clearedBlock 0) := by decide
/-- 70_reset_and_hazards.md R241, with another mask. -/
theorem test_rst_mask : (nextOf (exec .rst
    { State.reset with cfg := { State.reset.cfg with resetEnableMask := 0b101 } })).map
    (fun t => (t.blk.a.enP1, t.blk.a.enP2, t.blk.a.enTri)) = some (true, false, true) := by decide

/-! ## The operations of the units -/

/-- V11, the third and fourth timer clocks. -/
theorem test_pulse_timer : ({ p0 with timerPeriod := 2, timerCounter := 0 }.timerClock =
      { p0 with timerPeriod := 2, timerCounter := 2, dutyStep := 1 }) ∧
    { p0 with timerPeriod := 2, timerCounter := 2, dutyStep := 1 }.timerClock =
      { p0 with timerPeriod := 2, timerCounter := 1, dutyStep := 1 } := by decide
/-- W4, period 1: the clocks (15,0) to (14,1), and (0,0) to (15,1) with loop. -/
theorem test_env_clock : { p0 with envPeriod := 1, envDecay := 15 }.envClock =
      { p0 with envPeriod := 1, envDecay := 14, envDivider := 1 } ∧
    { p0 with envPeriod := 1, envLoop := true }.envClock =
      { p0 with envPeriod := 1, envLoop := true, envDecay := 15, envDivider := 1 } := by decide
/-- V12, one row a line. -/
theorem test_sweep_rows :
    ({ p0 with timerPeriod := 0x100, sweepNegate := true, sweepShift := 1 }.sweepTarget 16,
     { p0 with timerPeriod := 0x100, sweepShift := 1 }.sweepTarget 16,
     { p0 with timerPeriod := 0x7FF }.sweepTarget 16,
     { p0 with timerPeriod := 0x7FF, sweepNegate := true }.sweepTarget 16,
     { p0 with timerPeriod := 0x123, sweepShift := 7 }.sweepTarget 16,
     { p0 with timerPeriod := 0x005, sweepNegate := true, sweepShift := 1 }.sweepTarget 16,
     { p0 with timerPeriod := 0xC000 }.sweepTarget 16) =
    (0x080, 0x180, 0xFFE, 0x000, 0x125, 0x003, 0x8000) := by decide
/-- V13, clock 1, and V14, clock 1: the reload clock applies the sweep only if the divider was 0. -/
theorem test_sweep_reload :
    { p0 with timerPeriod := 0x400, sweepEnabled := true, sweepPeriod := 2, sweepShift := 1,
              sweepReload := true }.sweepClock 16 =
      { p0 with timerPeriod := 0x600, sweepEnabled := true, sweepPeriod := 2, sweepShift := 1, sweepDivider := 2 } ∧
    { p0 with timerPeriod := 0x400, sweepEnabled := true, sweepPeriod := 2, sweepShift := 1, sweepReload := true,
              sweepDivider := 3 }.sweepClock 16 =
      { p0 with timerPeriod := 0x400, sweepEnabled := true, sweepPeriod := 2, sweepShift := 1,
                sweepDivider := 2 } := by decide
/-- V17: a counter at 0 stays there. -/
theorem test_length_clock : lengthDown true 2 = 1 ∧ lengthDown true 0 = 0 ∧ lengthDown false 2 = 2 := by decide
/-- W2, the table of periods. -/
theorem test_pulse_output_mute :
    ({ loud with timerPeriod := 0x007 }.output defaultConfig, { loud with timerPeriod := 0x008 }.output defaultConfig,
     { loud with timerPeriod := 0x7FF }.output defaultConfig, { loud with timerPeriod := 0x800 }.output defaultConfig) =
    (0, 15, 15, 0) := by decide
/-- V18. -/
theorem test_pulse_output_select :
    ({ loud with envEnabled := true, envDecay := 7 }.output defaultConfig,
     { loud with constVolume := 12 }.output defaultConfig, { loud with lengthValue := 0 }.output defaultConfig) =
    (7, 12, 0) := by decide
/-- W2, the last line: row 3 of the default duty table. -/
theorem test_duty_row_three :
    ([0, 1, 2, 3, 4, 5, 6, 7] : List (BitVec 3)).map (fun k => { loud with dutyStep := k }.output defaultConfig) =
    [15, 0, 0, 15, 15, 15, 15, 15] := by decide
/-- V20, V21: the linear counter, counting and held. -/
theorem test_lin_clock :
    { t0 with lengthEnabled := true, linPeriod := 3, linReload := true }.linClock =
      { t0 with lengthEnabled := true, linPeriod := 3, linValue := 3 } ∧
    { t0 with lengthEnabled := true, linPeriod := 3, linValue := 1 }.linClock =
      { t0 with lengthEnabled := true, linPeriod := 3, linValue := 0 } ∧
    { t0 with linPeriod := 3, linReload := true }.linClock =
      { t0 with linPeriod := 3, linValue := 3, linReload := true } := by decide
/-- V22, V23: the triangle timer with and without both counters. -/
theorem test_tri_timer : held.timerClock = { held with timerCounter := 1, step := 1 } ∧
    { held with linValue := 0 }.timerClock = { held with linValue := 0, timerCounter := 1 } := by decide
/-- V24. -/
theorem test_tri_output : ([0, 7, 15, 16, 23, 31] : List (BitVec 5)).map (fun k => { held with step := k }.output) =
    [15, 8, 0, 0, 7, 15] := by decide
/-- V7 and W9: outputs 9, 15 and 6 under the masks 0b101, 0b111, 0b010 and 0b000. -/
theorem test_mix :
    ([(true, false, true), (true, true, true), (false, true, false), (false, false, false)] :
      List (Bool × Bool × Bool)).map (fun e =>
        Block.mix defaultConfig
          { a := { a0 with enP1 := e.1, enP2 := e.2.1, enTri := e.2.2 }, p1 := { loud with constVolume := 9 },
            p2 := loud, t := { held with step := 9 } }) =
    [5, 10, 5, 0] := by decide
/-- V5: a frame clock at index 4 in 4-step mode. -/
theorem test_index_four : (withA (at_ 0 .fourStep 4)).blk.frameClock defaultConfig =
    (withA (at_ 0 .fourStep 1)).blk := by decide
/-- V6, the row of 5-step index 4: no quarter clock, so both pending starts and the pending reload stand. -/
theorem test_index_four_five_step :
    let b : Block := { State.reset.blk with
      a := at_ 0 .fiveStep 4, p1 := { p0 with envStart := true }, p2 := { p0 with envStart := true },
      t := { t0 with linReload := true } }
    b.frameClock defaultConfig = { b with a := { b.a with frameStep := 0 } } := by decide
/-- V9: a ready sink takes the sample of the `ADV` that reaches 41, and a sink that is not ready takes none. -/
theorem test_sample_delivered :
    (nextOf (exec .adv { withA { a0 with cycle := 40 } with sinkReady := true })).map (fun t => t.delivered) =
      some (some 0) ∧
    (nextOf (exec .adv (withA { a0 with cycle := 40 }))).map (fun t => (t.out.sampleValid, t.delivered)) =
      some (true, none) := by decide

/-! ## The step -/

theorem test_step_runs_the_first_word_after_reset :
    (nextOf (step (State.reset.withFetchWord 32 0x14000BF))).map (fun t => t.blk.p1.dutyMode) = some 2 := by decide
theorem test_step_refuses_an_illegal_word :
    refusalOf (step (State.reset.withFetchWord 32 0x0000001)) = some (.illegalWord .advReservedNonzero) := by decide
theorem test_step_idles : (nextOf (step State.reset)).map (fun t => t.blk) = some State.reset.blk := by decide
theorem test_step_attaches : (nextOf (step (withPending [.attachSink]))).map (fun t => (t.sinkAttached, t.pending)) =
    some (true, []) := by decide
/-- 00_scope.md R11. -/
theorem test_step_refuses_a_short_period :
    refusalOf (step { State.reset with cfg := { State.reset.cfg with framePeriod := ⟨1, 2⟩ } }) =
      some .configOutsideSpec := by decide

/-! ## The assembler: 30_encoding.md R87 to R89 -/

theorem test_assemble_wr : assembleLine "WR 0x4000, 0xBF ; W8" = some [0x14000BF] := by decide
theorem test_assemble_mnemonic : assembleLine "WR_P1_CTRL 0xBF" = some [0x14000BF] := by decide
theorem test_assemble_rd : assembleLine "RD 0x4015" = some [0x2401500] := by decide
theorem test_assemble_adv_n : assembleLine "ADV 3" = some [0, 0, 0] := by decide
theorem test_assemble_settimer : assembleLine "SETTIMER 0x4000, 0x3AB, 1" = some [0x14002AB, 0x140030B] := by decide
theorem test_assemble_refuses : assembleLine "ADV 0" = none := by decide

/-! ## Witnesses: inputs that meet the statements' hypotheses -/

theorem test_witness_DecodeOfEncodeIsIdentity :
    (Instr.wrUnmapped 0x4018 0xFF).wf = true ∧ (Instr.rdOther 0x4016).wf = true ∧ (Instr.wrP2Thi 0xFF).wf = true := by
  decide
theorem test_witness_EncodeOfDecodeIsIdentity : decode 0x1FFFFFF = .ok (.wrUnmapped 0xFFFF 0xFF) := rfl
theorem test_witness_ReservedFieldsMakeTheOnlyIllegalWords :
    decode 0x0000100 = .error .advReservedNonzero ∧ decode 0x3000001 = .error .rstReservedNonzero ∧
    decode 0x2000080 = .error .rdReservedNonzero ∧ State.reset.cfg.Legal ∧
    (withPending [.operation 0x3000001 true]).pending = .operation 0x3000001 true :: [] := by decide
theorem test_witness_OperationMapRowsDecode :
    (0x1400BFF#26 &&& 0x3FFFF00#26 = 0x1400B00#26) ∧ (0x1401700#26 &&& 0x3FFFF00#26 = 0x1401700#26) ∧
    (0x1400900#26 &&& 0x3000000#26 = 0x1000000#26 ∧ (0x1400900#26).extractLsb' 8 16 ∉ mappedWriteAddrs) ∧
    (0x2401400#26 &&& 0x30000FF#26 = 0x2000000#26 ∧ (0x2401400#26).extractLsb' 8 16 ≠ 0x4015#16) := by decide
/-- Each row's own `match` meets its clause. -/
theorem test_witness_OperationMapRowsDecode_rows : ∀ i ∈ fullRows, rowMatch i &&& rowMask i = rowMatch i := by decide
theorem test_witness_StepRunsTheFirstPresentedOperation :
    (withPending [.operation 0x1400309 true, .attachSink]).cfg.Legal ∧
    (withPending [.operation 0x1400309 true, .attachSink]).pending = .operation 0x1400309 true :: [.attachSink] ∧
    decode 0x1400309 = .ok (.wrP1Thi 0x09) := ⟨by decide, rfl, rfl⟩
theorem test_witness_PlacedWordIsTheNextOperation : State.reset.cfg.Legal ∧ Instr.rst.wf = true := by decide
theorem test_witness_PeriodsBelowOneAreRefusedAndEventsFireOncePerAdvance :
    (let c : Config := { State.reset.cfg with framePeriod := ⟨2, 3⟩ }; c.framePeriod.num < c.framePeriod.den) ∧
    (let c : Config := { State.reset.cfg with samplePeriod := ⟨0, 1⟩ }; c.samplePeriod.num < c.samplePeriod.den) ∧
    (⟨1, 1⟩ : Ratio).AtLeastOne ∧ (withA { a0 with cycle := 7457 }).cfg.Legal := by decide
theorem test_witness_IdleAndAttachLeaveTheBlock :
    State.reset.cfg.Legal ∧ State.reset.pending = [] ∧
    (withPending [.attachSink]).cfg.Legal ∧ (withPending [.attachSink]).pending = .attachSink :: [] := by decide
/-- The widest periods a width of 16 and a width of 8 hold. -/
theorem test_witness_TimerLowWriteReplacesTheLowByteOnly :
    8 ≤ State.reset.cfg.periodW ∧ (withP1 { p0 with timerPeriod := 0xFFFF }).blk.p1.timerPeriod < 2 ^ 16 ∧
    (withT { t0 with timerPeriod := 0x7FF }).blk.t.timerPeriod < 2 ^ State.reset.cfg.periodW ∧
    8 ≤ { State.reset.cfg with periodW := 8 }.periodW ∧ State.reset.blk.p2.timerPeriod < 2 ^ 8 := by decide
theorem test_witness_FrameCounterWriteSetsModeAndInterruptEnable :
    (0x7F : Byte).getLsbD 7 = false ∧ (0x80 : Byte).getLsbD 7 = true := by decide
theorem test_witness_AnyNumberOfReadsChangesNothing :
    ∀ i ∈ [Instr.rdStatus, .rdOther 0x4003, .rdStatus], i = .rdStatus ∨ ∃ addr, i = .rdOther addr := by simp
theorem test_witness_OnlyTheIgnoredDataBitsHaveNoEffect :
    (0x05 : Byte).extractLsb' 0 3 = (0xFD : Byte).extractLsb' 0 3 ∧
    (0xC0 : Byte).extractLsb' 6 2 = (0xFF : Byte).extractLsb' 6 2 := by decide
/-- The advances that reach 7458 and 41 are events of the default periods; those before them are not. -/
theorem test_witness_AdvanceRunsTimersIncrementFrameClockSample :
    (withA { a0 with cycle := 7457 }).FrameEvent ∧ ¬ (withA { a0 with cycle := 7456 }).FrameEvent ∧
    (withA { a0 with cycle := 40 }).SampleEvent ∧ ¬ (withA { a0 with cycle := 39 }).SampleEvent := by decide
theorem test_witness_PulseTimersAreClockedOnEvenCycles :
    State.reset.blk.a.cycle % 2 = 0 ∧ (withA { a0 with cycle := 1 }).blk.a.cycle % 2 = 1 ∧
    (withP1 { p0 with timerCounter := 0xFFFF }).blk.p1.timerCounter ≠ 0 ∧
    (withP1 { p0 with timerPeriod := 0xFFFF }).blk.p1.timerCounter = 0 := by decide
theorem test_witness_TriangleTimerIsClockedEveryAdvance :
    (withT held).blk.t.timerCounter = 0 ∧
    ((withT held).blk.t.lengthValue ≠ 0#8 ∧ (withT held).blk.t.linValue ≠ 0#7) ∧
    ¬ ((withT { held with linValue := 0 }).blk.t.lengthValue ≠ 0#8 ∧
        (withT { held with linValue := 0 }).blk.t.linValue ≠ 0#7) ∧
    (withT { held with timerCounter := 1 }).blk.t.timerCounter ≠ 0 := by decide
/-- Every step of both modes. -/
theorem test_witness_FrameClockFollowsItsStepTables :
    (∀ i ∈ ([0, 1, 2, 3] : List (BitVec 3)), (withA (at_ 0 .fourStep i)).blk.a.frameMode = .fourStep ∧
      (withA (at_ 0 .fourStep i)).blk.a.frameStep = i) ∧
    (∀ i ∈ ([0, 1, 2, 3, 4] : List (BitVec 3)), (withA (at_ 0 .fiveStep i)).blk.a.frameMode = .fiveStep ∧
      (withA (at_ 0 .fiveStep i)).blk.a.frameStep = i) := by decide
/-- Index 4 in 4-step mode is reached by a frame-counter write at index 4 of 5-step mode, and by no other operation. -/
theorem test_witness_IndexFourInFourStepModeOnlyMovesToOne :
    exec (.wrFrameCtrl 0x00) (withA (at_ 0 .fiveStep 4)) =
      .next ((withA (at_ 0 .fiveStep 4)).after (.wrFrameCtrl 0x00)) ∧
    ((withA (at_ 0 .fiveStep 4)).after (.wrFrameCtrl 0x00)).blk.a.frameMode = .fourStep ∧
    ((withA (at_ 0 .fiveStep 4)).after (.wrFrameCtrl 0x00)).blk.a.frameStep = 4#3 ∧
    ((∀ v, Instr.adv ≠ .wrFrameCtrl v) ∧
      ((withA (at_ 7457 .fourStep 3)).blk.a.frameMode = .fourStep →
        (withA (at_ 7457 .fourStep 3)).blk.a.frameStep.toNat ≤ 3)) ∧
    (withA (at_ 0 .fiveStep 3)).blk.a.frameStep ≠ 4#3 :=
  ⟨rfl, by decide, by decide, ⟨fun _ h => (nomatch h), by decide⟩, by decide⟩
/-- Quarter clocks at the first and the last step that has one, and none at step 4 or between frame clocks. -/
theorem test_witness_EnvelopeIsClockedOnQuarterClocks :
    (withA (at_ 7457 .fourStep 0)).QuarterEvent ∧ (withA (at_ 7457 .fiveStep 3)).QuarterEvent ∧
    ¬ (withA (at_ 7457 .fiveStep 4)).QuarterEvent ∧ ¬ (withA (at_ 7456 .fourStep 0)).QuarterEvent := by decide
/-- The five cases of an envelope clock. -/
theorem test_witness_EnvelopeIsClockedOnQuarterClocks_cases :
    { p0 with envStart := true }.envStart = true ∧
    ({ p0 with envDivider := 1 }.envStart = false ∧ { p0 with envDivider := 1 }.envDivider ≠ 0#4) ∧
    (p0.envStart = false ∧ p0.envDivider = 0#4 ∧ { p0 with envDecay := 15 }.envDecay ≠ 0#4) ∧
    (p0.envDecay = 0#4 ∧ { p0 with envLoop := true }.envLoop = true) ∧
    (p0.envDecay = 0#4 ∧ p0.envLoop = false) := by decide
theorem test_witness_LinearCounterIsClockedOnQuarterClocks :
    (withA (at_ 7457 .fiveStep 0)).QuarterEvent ∧ held.linReload = true ∧ t0.linReload = false ∧
    { t0 with lengthEnabled := true }.lengthEnabled = true ∧ t0.lengthEnabled = false := by decide
/-- Half clocks at both steps of each mode that have one, and none at the others. -/
theorem test_witness_SweepIsClockedOnHalfClocks :
    (withA (at_ 7457 .fourStep 1)).HalfEvent ∧ (withA (at_ 7457 .fourStep 3)).HalfEvent ∧
    (withA (at_ 7457 .fiveStep 0)).HalfEvent ∧ (withA (at_ 7457 .fiveStep 2)).HalfEvent ∧
    ¬ (withA (at_ 7457 .fourStep 0)).HalfEvent ∧ ¬ (withA (at_ 7457 .fiveStep 1)).HalfEvent ∧
    ¬ (withA (at_ 7456 .fourStep 1)).HalfEvent := by decide
/-- The cases of a sweep clock. -/
theorem test_witness_SweepIsClockedOnHalfClocks_cases :
    ({ p0 with sweepReload := true, sweepDivider := 7 }.sweepReload = true ∧ p0.sweepDivider = 0#3) ∧
    (p0.sweepReload = false ∧ { p0 with sweepDivider := 1 }.sweepDivider ≠ 0#3) ∧
    ({ p0 with sweepEnabled := true }.sweepEnabled = true ∧ p0.sweepDivider = 0#3) ∧
    ¬ (p0.sweepEnabled = true ∧ p0.sweepDivider = 0#3) := by decide
theorem test_witness_LengthCountersAreClockedOnHalfClocks :
    (withA (at_ 14914 .fourStep 1)).HalfEvent ∧ ¬ (withA (at_ 14914 .fiveStep 4)).HalfEvent ∧
    { p0 with lengthEnabled := true }.lengthEnabled = true ∧ p0.lengthEnabled = false := by decide
theorem test_witness_SampleIsTheMixedOutputOfEnabledChannels :
    (withA { a0 with cycle := 81 }).SampleEvent ∧ ¬ (withA { a0 with cycle := 41 }).SampleEvent ∧
    { withA { a0 with cycle := 81 } with sinkReady := true }.sinkReady = true ∧
    (withA { a0 with cycle := 81 }).sinkReady = false := by decide
theorem test_witness_InterruptRisesOnlyAtStepThreeOfFourStepMode :
    ((withA (at_ 29829 .fourStep 3)).FrameEvent ∧ (at_ 29829 .fourStep 3).irqEnabled = true) ∧
    Instr.rdStatus ≠ .adv ∧ exec .rdStatus State.reset = .next (State.reset.after .rdStatus) :=
  ⟨by decide, by decide, rfl⟩
theorem test_witness_PortsAreZeroOutsideTheirOperation :
    exec (.wrP1Ctrl 0xBF) State.reset = .next (State.reset.after (.wrP1Ctrl 0xBF)) ∧ Instr.wrP1Ctrl 0xBF ≠ .adv :=
  ⟨rfl, by decide⟩
theorem test_witness_OnlyAdvanceAndResetChangeTheCycleCount :
    exec .adv State.reset = .next (State.reset.after .adv) ∧ exec .rst State.reset = .next (State.reset.after .rst) ∧
    exec (.wrFrameCtrl 0) State.reset = .next (State.reset.after (.wrFrameCtrl 0)) ∧
    Instr.wrFrameCtrl 0 ≠ .adv ∧ Instr.wrFrameCtrl 0 ≠ .rst := ⟨rfl, rfl, rfl, by decide, by decide⟩
theorem test_witness_PulseLengthValuesChangeOnlyByLoadClockAndReset :
    exec (.wrP1Thi 0xFF) State.reset = .next (State.reset.after (.wrP1Thi 0xFF)) ∧
    exec (.wrP2Thi 0x00) State.reset = .next (State.reset.after (.wrP2Thi 0x00)) ∧
    exec .rst (withP1 loud) = .next ((withP1 loud).after .rst) ∧
    exec .adv (withA (at_ 14914 .fourStep 1)) = .next ((withA (at_ 14914 .fourStep 1)).after .adv) ∧
    (withA (at_ 14914 .fourStep 1)).HalfEvent ∧
    Instr.adv ≠ .rst ∧ ¬ (Instr.adv = .adv ∧ (withA (at_ 14914 .fourStep 0)).HalfEvent) ∧
    (∀ v, Instr.adv ≠ .wrP1Thi v) ∧ (∀ v, Instr.adv ≠ .wrP2Thi v) :=
  ⟨rfl, rfl, rfl, rfl, by decide, by decide, by decide, fun _ h => (nomatch h), fun _ h => (nomatch h)⟩
/-- The largest 11-bit period, at shift 0 with and without negate. -/
theorem test_witness_SweepSumWrapsAtThePeriodWidth :
    (12 ≤ 12 ∧ { p0 with timerPeriod := 0x7FF }.sweepNegate = false ∧
      { p0 with timerPeriod := 0x7FF }.timerPeriod ≤ 0x7FF) ∧
    (p0.sweepShift = 0#3 ∧ { p0 with sweepNegate := true }.sweepNegate = true) ∧
    (p0.sweepShift = 0#3 ∧ p0.sweepNegate = false) := by decide
theorem test_witness_EveryStepKeepsTheInvariant :
    (withPending [.operation 0x0000000 true]).Inv ∧
    step (withPending [.operation 0x0000000 true]) =
      .next (((withPending [.operation 0x0000000 true]).take []).drive true |>.after .adv) := ⟨by decide, rfl⟩
theorem test_witness_EventsOverARunAreCountedByFloors : (withA { a0 with cycle := 10 ^ 30 }).cfg.Legal := by decide
theorem test_witness_AFrameClockComesWithinOnePeriod : (withA { a0 with cycle := 7458 }).cfg.Legal := by decide
/-- At both ends of the indexes the statement covers, with length counting of the triangle enabled. -/
theorem test_witness_PendingStartsAreConsumedWithinOnePeriod :
    (∀ i ∈ [0#3, 3#3], (withA (at_ 7458 .fiveStep i)).cfg.Legal ∧
      (withA (at_ 7458 .fiveStep i)).blk.a.frameStep.toNat ≤ 3) ∧
    (withT { t0 with lengthEnabled := true, linReload := true }).blk.t.lengthEnabled = true := by decide
/-- The indexes where the clauses meet, in both modes. -/
theorem test_witness_PendingRequestsWaitForTheirClocks :
    (∀ i ∈ [0#3, 3#3], (withA (at_ 0 .fourStep i)).blk.a.frameStep.toNat ≤ 3) ∧
    (∀ m ∈ [FrameMode.fourStep, .fiveStep], ∀ i ∈ [0#3, 3#3, 4#3],
      (withA (at_ 0 m i)).blk.a.frameMode = m ∧ (withA (at_ 0 m i)).blk.a.frameStep = i) ∧
    (withT { t0 with linReload := true }).blk.t.linReload = true := by decide
theorem test_witness_OneInterruptPerFourFrameClocks :
    (withA (at_ 0 .fourStep 3)).cfg.Legal ∧ (at_ 0 .fourStep 3).frameMode = .fourStep ∧
    (at_ 0 .fourStep 3).irqEnabled = true ∧ (at_ 0 .fourStep 3).frameStep.toNat ≤ 3 := by decide
theorem test_witness_CrossingsFallAtTheCeilingsOfMultiples :
    (⟨1, 1⟩ : Ratio).AtLeastOne ∧ defaultFramePeriod.AtLeastOne ∧
    7457 + 1 = (1 * defaultFramePeriod.num + defaultFramePeriod.den - 1) / defaultFramePeriod.den := by decide
theorem test_witness_SilentAfterResetUntilTimerHigh :
    execAll [.rst, .wrP1Ctrl 0xBF, .adv] (withP1 loud) =
      .next ([.rst, .wrP1Ctrl 0xBF, .adv].foldl State.after (withP1 loud)) ∧
    (∀ i ∈ [Instr.wrP1Ctrl 0xBF, .adv], isTimerHigh i = false) ∧
    (∀ i ∈ [Instr.wrFrameCtrl 0x40, .adv], enablesIrq i = false) := ⟨execAll_eq _ _, by decide, by decide⟩
theorem test_witness_EnableFlagsReachOnlyTheSamples :
    (withA { a0 with enP1 := true, enTri := true }).cfg = State.reset.cfg ∧
    (withA { a0 with enP1 := true, enTri := true }).blk.maskEnables = State.reset.blk.maskEnables ∧
    (withA { a0 with enP1 := true, enTri := true }).blk ≠ State.reset.blk ∧
    (withA { a0 with cycle := 40 }).SampleEvent ∧ ((withA { a0 with cycle := 40 }).after .adv).out.sampleValid = true :=
  by decide
theorem test_witness_DroppedSamplesLeaveNoTrace : [Instr.adv] ≠ [] ∧ false = false := by decide
theorem test_witness_PulseOneReachesNoOtherUnit :
    (withP1 loud).cfg = State.reset.cfg ∧ (withP1 loud).blk.maskP1 = State.reset.blk.maskP1 ∧
    (withP1 loud).blk ≠ State.reset.blk := by decide
theorem test_witness_PulseChannelsAreInterchangeable :
    exec .adv (withP1 loud) = .next ((withP1 loud).after .adv) ∧
    exec (.wrP1Ctrl 0xBF) (withP1 loud) = .next ((withP1 loud).after (.wrP1Ctrl 0xBF)) ∧
    exec (.wrP1Sweep 0x89) (withP1 loud) = .next ((withP1 loud).after (.wrP1Sweep 0x89)) ∧
    exec (.wrP1Tlo 0xAB) (withP1 loud) = .next ((withP1 loud).after (.wrP1Tlo 0xAB)) ∧
    exec (.wrP1Thi 0x03) (withP1 loud) = .next ((withP1 loud).after (.wrP1Thi 0x03)) := ⟨rfl, rfl, rfl, rfl, rfl⟩
/-- From an odd count in mid-period: the last clock that only counts down, the one that steps, and the next period's. -/
theorem test_witness_DutyStepAdvancesEveryTwoPeriodsPlusTwo :
    let s := withP1 { p0 with timerPeriod := 5, timerCounter := 2 }
    let u : State := { s with blk := { s.blk with a := { a0 with cycle := 7 } } }
    (u.blk.pulse .one).sweepEnabled = false ∧
    2 = (u.blk.a.cycle + 4 + 1) / 2 - (u.blk.a.cycle + 1) / 2 ∧ 2 ≤ (u.blk.pulse .one).timerCounter ∧
    3 = (u.blk.a.cycle + 6 + 1) / 2 - (u.blk.a.cycle + 1) / 2 ∧ 3 = (u.blk.pulse .one).timerCounter + 1 + 0 ∧
    9 = (u.blk.a.cycle + 18 + 1) / 2 - (u.blk.a.cycle + 1) / 2 ∧
    9 = (u.blk.pulse .one).timerCounter + 1 + ((u.blk.pulse .one).timerPeriod + 1) := by decide
/-- In mid-period: the last advance that only counts down and the first that steps. -/
theorem test_witness_HeldTriangleStepsEveryPeriodPlusOne :
    let t := { held with timerPeriod := 0x7FF, timerCounter := 2 }
    t.lengthEnabled = false ∧ t.linReload = true ∧ t.lengthValue ≠ 0#8 ∧ t.linValue ≠ 0#7 ∧ t.linPeriod ≠ 0#7 ∧
    2 ≤ t.timerCounter ∧ 3 = t.timerCounter + 1 + 0 := by decide
/-- The longest envelope, at the last clock of a decay event's interval. -/
theorem test_witness_EnvelopeDecaysOnceEveryPeriodPlusOneClocks :
    { p0 with envStart := true, envPeriod := 15 }.envStart = true ∧
    15 ≤ { p0 with envStart := true, envPeriod := 15 }.envPeriod.toNat := by decide
theorem test_witness_LengthRunsOutAfterAsManyHalfClocks :
    { p0 with lengthEnabled := true, lengthValue := 254 }.lengthEnabled = true ∧ p0.lengthEnabled = false ∧
    { t0 with lengthEnabled := true }.lengthEnabled = true ∧ t0.lengthEnabled = false := by decide

/-! ## Completion, from the state after reset and from a busy one -/

theorem test_every_operation_completes :
    ∀ i ∈ fullRows ++ [.wrUnmapped 0x4009 0xFF, .rdOther 0x4003],
      (nextOf (exec i State.reset)).isSome = true ∧ (nextOf (exec i (withP1 loud))).isSome = true := by decide

end Sys2Proof.Tests
end

section
/-! Runs of reads (20_memory.md R65): a read is idempotent, so a run of reads ends as its first read does. -/

namespace Sys2Proof.Machine

/-- The two bus read operations, at 0x4015 and at every other address (20_memory.md R65). -/
def IsRead (i : Instr) : Prop := i = .rdStatus ∨ ∃ addr, i = .rdOther addr

/-- A read at any address keeps the block and drives no port (30_encoding.md R94). -/
theorem State.after_read {i : Instr} (hi : IsRead i) (s : State) : s.after i = s.settle s.blk := by
  obtain rfl | ⟨addr, rfl⟩ := hi
  · rfl
  · rfl

/-- `settle` with the state's own block is idempotent. -/
theorem State.settle_settle_blk (s : State) : (s.settle s.blk).settle (s.settle s.blk).blk = s.settle s.blk := rfl

/-- However many reads follow the first, the run ends in the state the first read makes. -/
theorem foldl_after_reads {i : Instr} {is : List Instr} (h : ∀ j ∈ i :: is, IsRead j) (s : State) :
    (i :: is).foldl State.after s = s.settle s.blk := by
  obtain ⟨hi, his⟩ := List.forall_mem_cons.1 h
  rw [List.foldl_cons, State.after_read hi]
  refine foldl_after_induction (P := (· = s.settle s.blk)) is _ rfl fun j hj t ht => ?_
  rw [State.after_read (his j hj), ht, State.settle_settle_blk]

/-- Settles O22: an empty run changes nothing, and any other run of reads ends as its first read does. -/
theorem anyNumberOfReadsChangesNothing : Obligations.AnyNumberOfReadsChangesNothing := by
  intro is s h
  refine ⟨is.foldl State.after s, execAll_eq is s, ?_⟩
  cases is with
  | nil => exact ⟨rfl, fun hne => absurd rfl hne⟩
  | cons i is =>
    rw [foldl_after_reads h]
    exact ⟨s.settle_blk s.blk, fun _ => by rw [State.settle_out, Outputs.quiet_rdata]⟩

end Sys2Proof.Machine
end

section
/-! Register writes (30_encoding.md R77, R78, R81, R84): which operation an address reaches, and the fields its byte
sets, in the bits of the byte. -/

namespace Sys2Proof

/-! The exact match of an address (30_encoding.md R73), at the six addresses of these writes. -/

@[simp] theorem decodeWrite_p1Ctrl (v : Byte) : decodeWrite 0x4000#16 v = .wrP1Ctrl v := rfl
@[simp] theorem decodeWrite_p2Ctrl (v : Byte) : decodeWrite 0x4004#16 v = .wrP2Ctrl v := rfl
@[simp] theorem decodeWrite_p1Sweep (v : Byte) : decodeWrite 0x4001#16 v = .wrP1Sweep v := rfl
@[simp] theorem decodeWrite_p2Sweep (v : Byte) : decodeWrite 0x4005#16 v = .wrP2Sweep v := rfl
@[simp] theorem decodeWrite_triCtrl (v : Byte) : decodeWrite 0x4008#16 v = .wrTriCtrl v := rfl
@[simp] theorem decodeWrite_apuEnable (v : Byte) : decodeWrite 0x4015#16 v = .wrApuEnable v := rfl

end Sys2Proof

namespace Sys2Proof.Machine

/-- The control byte's fields stand where `DDLC VVVV` puts them (30_encoding.md R77). -/
theorem Pulse.writeCtrl_eq_controlled (p : Pulse) (v : Byte) : p.writeCtrl v = p.controlled v := rfl

/-- The sweep byte's fields stand where `EPPP NSSS` puts them (30_encoding.md R78). -/
theorem Pulse.writeSweep_eq_swept (p : Pulse) (v : Byte) : p.writeSweep v = p.swept v := rfl

/-- The triangle's control byte is `CRRR RRRR` (30_encoding.md R81). -/
theorem Triangle.writeCtrl_eq (t : Triangle) (v : Byte) :
    t.writeCtrl v = { t with lengthEnabled := !v.getLsbD 7, linPeriod := v.extractLsb' 0 7 } := rfl

/-- The enable byte is `---- -TBA` (30_encoding.md R84). -/
theorem Coordinator.writeEnable_eq (a : Coordinator) (v : Byte) :
    a.writeEnable v = { a with enP1 := v.getLsbD 0, enP2 := v.getLsbD 1, enTri := v.getLsbD 2 } := rfl

/-- A control write reaches its own channel only and drives no port, for either channel (41_pulse.md R140). -/
theorem pulseCtrlWrite_eq_withBlock (c : PulseIx) (v : Byte) (s : State) :
    pulseCtrlWrite c v s = s.withBlock (s.blk.setPulse c ((s.blk.pulse c).controlled v)) := by
  rw [pulseCtrlWrite, State.settle_eq_withBlock, Pulse.writeCtrl_eq_controlled]

/-- A sweep write reaches its own channel only and drives no port, for either channel (41_pulse.md R140). -/
theorem pulseSweepWrite_eq_withBlock (c : PulseIx) (v : Byte) (s : State) :
    pulseSweepWrite c v s = s.withBlock (s.blk.setPulse c ((s.blk.pulse c).swept v)) := by
  rw [pulseSweepWrite, State.settle_eq_withBlock, Pulse.writeSweep_eq_swept]

/-- Settles O13: both channels' control writes are one write, taken at its channel. -/
theorem pulseControlWriteSetsItsFields : Obligations.PulseControlWriteSetsItsFields := by
  intro v s
  refine ⟨decodeWrite_p1Ctrl v, decodeWrite_p2Ctrl v, ?_, ?_⟩
  · rw [exec_eq, State.after, pulseCtrlWrite_eq_withBlock, Block.setPulse_one, Block.pulse_one]
  · rw [exec_eq, State.after, pulseCtrlWrite_eq_withBlock, Block.setPulse_two, Block.pulse_two]

/-- Settles O14: both channels' sweep writes are one write, taken at its channel. -/
theorem pulseSweepWriteSetsItsFields : Obligations.PulseSweepWriteSetsItsFields := by
  intro v s
  refine ⟨decodeWrite_p1Sweep v, decodeWrite_p2Sweep v, ?_, ?_⟩
  · rw [exec_eq, State.after, pulseSweepWrite_eq_withBlock, Block.setPulse_one, Block.pulse_one]
  · rw [exec_eq, State.after, pulseSweepWrite_eq_withBlock, Block.setPulse_two, Block.pulse_two]

/-- Settles O17: the write replaces the triangle's part of the block alone. -/
theorem triangleControlWriteSetsItsFields : Obligations.TriangleControlWriteSetsItsFields := by
  intro v s
  refine ⟨decodeWrite_triCtrl v, ?_⟩
  rw [exec_eq, State.after, State.settle_eq_withBlock, Block.setT, Triangle.writeCtrl_eq]

/-- Settles O19: the write replaces the coordinator's part of the block alone. -/
theorem channelEnableWriteSetsTheThreeFlags : Obligations.ChannelEnableWriteSetsTheThreeFlags := by
  intro v s
  refine ⟨decodeWrite_apuEnable v, ?_⟩
  rw [exec_eq, State.after, State.settle_eq_withBlock, Block.setA, Coordinator.writeEnable_eq]

end Sys2Proof.Machine
end

section
/-! The transaction word (30_encoding.md section 1 and R90): each operation is tied to its one word, and each row of
the operation map to the fields its mask pins. -/

namespace Sys2Proof

/-! `decode` on the words with an address (30_encoding.md R71, R73). -/

theorem decode_writeWord (addr : Addr) (v : Byte) :
    decode (transaction 0b01 addr v) = .ok (decodeWrite addr v) := by
  rw [decode_transaction]; rfl

theorem decode_readWord (addr : Addr) : decode (transaction 0b10 addr 0x00) = .ok (decodeRead addr) := by
  rw [decode_transaction]; rfl

/-- The operations that words spell: the two without operands, and what the address decoders give. -/
inductive Spelled : Instr → Prop
  | adv : Spelled .adv
  | write (addr : Addr) (v : Byte) : Spelled (decodeWrite addr v)
  | read (addr : Addr) : Spelled (decodeRead addr)
  | rst : Spelled .rst

/-- A well-formed operation is one that some word spells (30_encoding.md R72, R73). -/
theorem spelled_of_wf {i : Instr} (h : i.wf = true) : Spelled i := by
  cases i with
  | adv => exact .adv
  | wrP1Ctrl v => exact .write 0x4000 v
  | wrP1Sweep v => exact .write 0x4001 v
  | wrP1Tlo v => exact .write 0x4002 v
  | wrP1Thi v => exact .write 0x4003 v
  | wrP2Ctrl v => exact .write 0x4004 v
  | wrP2Sweep v => exact .write 0x4005 v
  | wrP2Tlo v => exact .write 0x4006 v
  | wrP2Thi v => exact .write 0x4007 v
  | wrTriCtrl v => exact .write 0x4008 v
  | wrTriTlo v => exact .write 0x400A v
  | wrTriThi v => exact .write 0x400B v
  | wrApuEnable v => exact .write 0x4015 v
  | wrFrameCtrl v => exact .write 0x4017 v
  | wrUnmapped addr v =>
    have hu : addr ∉ mappedWriteAddrs := by simpa [Instr.wf] using h
    exact decodeWrite_unmapped addr v hu ▸ .write addr v
  | rdStatus => exact .read statusAddr
  | rdOther addr =>
    have hne : addr ≠ statusAddr := by simpa [Instr.wf] using h
    have hr : decodeRead addr = .rdOther addr := if_neg hne
    exact hr ▸ .read addr
  | rst => exact .rst

/-- A well-formed operation is read back from the word it is written as. -/
theorem decode_encode {i : Instr} (h : i.wf = true) : decode (encode i) = .ok i := by
  cases spelled_of_wf h with
  | adv => rfl
  | write addr v => rw [encode_decodeWrite, decode_writeWord]
  | read addr => rw [encode_decodeRead, decode_readWord]
  | rst => rfl

/-- Settles O1: every well-formed operation is one that a word spells, and each kind of word is read back. -/
theorem decodeOfEncodeIsIdentity : Obligations.DecodeOfEncodeIsIdentity := fun _ h => decode_encode h

/-- A word with a reserved field spells its operation if the field is zero, and no other (30_encoding.md R72). -/
theorem reserved_ok_iff {zero : Prop} [Decidable zero] {i j : Instr} {why : IllegalWord} :
    (if zero then .ok i else .error why : Except IllegalWord Instr) = .ok j ↔ zero ∧ i = j := by
  split_ifs with hz <;> simp [hz]

/-- Settles O2: by the four values of `op`. -/
theorem encodeOfDecodeIsIdentity : Obligations.EncodeOfDecodeIsIdentity := by
  intro w i h
  obtain ⟨op, addr, v, rfl⟩ : ∃ op addr v, transaction op addr v = w := ⟨_, _, _, transaction_fields w⟩
  rw [decode_transaction] at h
  obtain rfl | rfl | rfl | rfl := op_cases op
  · obtain ⟨⟨rfl, rfl⟩, rfl⟩ : (addr = 0#16 ∧ v = 0#8) ∧ .adv = i := reserved_ok_iff.1 h
    exact ⟨rfl, rfl⟩
  · obtain rfl : decodeWrite addr v = i := by simpa using h
    exact ⟨decodeWrite_wf addr v, encode_decodeWrite addr v⟩
  · obtain ⟨rfl, rfl⟩ : v = 0#8 ∧ decodeRead addr = i := reserved_ok_iff.1 h
    exact ⟨decodeRead_wf addr, encode_decodeRead addr⟩
  · obtain ⟨⟨rfl, rfl⟩, rfl⟩ : (addr = 0#16 ∧ v = 0#8) ∧ .rst = i := reserved_ok_iff.1 h
    exact ⟨rfl, rfl⟩

/-- A word is refused exactly where a reserved field of it is not zero (30_encoding.md R72, R91). -/
theorem decode_error_iff (w : TWord) :
    (∃ why, decode w = .error why) ↔
      ((opField w = 0b00#2 ∨ opField w = 0b11#2) ∧ (addrField w ≠ 0#16 ∨ dataField w ≠ 0#8)) ∨
        (opField w = 0b10#2 ∧ dataField w ≠ 0#8) := by
  unfold decode
  generalize opField w = op, addrField w = addr, dataField w = v
  obtain rfl | rfl | rfl | rfl := op_cases op
  · by_cases h : addr = 0#16 ∧ v = 0#8 <;> simp [h]; tauto
  · simp
  · by_cases h : v = 0#8 <;> simp [h]
  · by_cases h : addr = 0#16 ∧ v = 0#8 <;> simp [h]; tauto

/-! A word under the masks of the operation map (30_encoding.md R90). -/

theorem transaction_inj {op op' : BitVec 2} {addr addr' : Addr} {v v' : Byte} :
    transaction op addr v = transaction op' addr' v' ↔ op = op' ∧ addr = addr' ∧ v = v' := by
  constructor
  · intro h
    exact ⟨by simpa using congrArg opField h, by simpa using congrArg addrField h,
      by simpa using congrArg dataField h⟩
  · rintro ⟨rfl, rfl, rfl⟩; rfl

/-- A row that leaves only the data free: the write of its address, with the data the word holds. -/
theorem decode_writeRow (addr : Addr) {w : TWord} (h : w &&& 0x3FFFF00#26 = transaction 0b01 addr 0) :
    decode w = .ok (decodeWrite addr (dataField w)) := by
  rw [← transaction_fields w, Laws.RowFit.dataFree, transaction_inj] at h
  obtain ⟨hop, haddr, -⟩ := h
  rw [← decode_writeWord, ← hop, ← haddr, transaction_fields]

/-- The row of the unmapped write pins `op` alone. -/
theorem decode_unmappedRow {w : TWord} (h : w &&& 0x3000000#26 = transaction 0b01 0 0) :
    decode w = .ok (decodeWrite (addrField w) (dataField w)) := by
  rw [← transaction_fields w, Laws.RowFit.opOnly, transaction_inj] at h
  rw [← decode_writeWord, ← h.1, transaction_fields]

/-- The row of the other reads pins `op` and the data. -/
theorem decode_otherReadRow {w : TWord} (h : w &&& 0x30000FF#26 = transaction 0b10 0 0) :
    decode w = .ok (decodeRead (addrField w)) := by
  rw [← transaction_fields w, Laws.RowFit.addrFree, transaction_inj] at h
  obtain ⟨hop, -, hdata⟩ := h
  rw [← decode_readWord]
  exact congrArg decode (by rw [← hop, ← hdata, transaction_fields])

/-- A row whose mask is full is the word of one operation. -/
theorem decode_fullRow {w : TWord} {i : Instr} (hi : i.wf = true) (h : w &&& 0x3FFFFFF#26 = encode i) :
    decode w = .ok i := by
  have hw : w &&& 0x3FFFFFF#26 = w := BitVec.and_allOnes
  rw [← hw, h, decode_encode hi]

/-- Settles O4: each row's mask pins the fields its operation is decoded from. -/
theorem operationMapRowsDecode : Obligations.OperationMapRowsDecode := by
  intro w
  refine ⟨decode_fullRow (i := .adv) rfl, decode_writeRow 0x4000, decode_writeRow 0x4001, decode_writeRow 0x4002,
    decode_writeRow 0x4003, decode_writeRow 0x4004, decode_writeRow 0x4005, decode_writeRow 0x4006,
    decode_writeRow 0x4007, decode_writeRow 0x4008, decode_writeRow 0x400A, decode_writeRow 0x400B,
    decode_writeRow 0x4015, decode_writeRow 0x4017, decode_fullRow (i := .rdStatus) rfl,
    decode_fullRow (i := .rst) rfl, fun h hu => ?_, fun h hne => ?_⟩
  · exact (decode_unmappedRow h).trans (congrArg _ (decodeWrite_unmapped _ _ hu))
  · exact (decode_otherReadRow h).trans (congrArg _ (if_neg hne))

/-- The general form of a `WR` word (30_encoding.md R92). -/
theorem writeForm_eq (addr : Addr) (v : Byte) :
    0x1000000#26 ||| addr.setWidth 26 <<< 8 ||| v.setWidth 26 = transaction 0b01 addr v := by
  apply BitVec.eq_of_getLsbD_eq
  intro k hk
  rw [getLsbD_transaction]
  interval_cases k <;> simp

/-- Settles O5: the examples are evaluated, the general form is the word with the three fields in their places. -/
theorem encodingExamplesDecode : Obligations.EncodingExamplesDecode := by
  refine ⟨rfl, rfl, rfl, rfl, rfl, rfl, rfl, rfl, rfl, rfl, rfl, rfl, fun addr v => ?_⟩
  rw [writeForm_eq]
  exact ⟨decode_writeWord addr v, encode_decodeWrite addr v⟩

end Sys2Proof
end

section
/-! One step (00_scope.md R15): what it does with each kind of event, when it has a next state, and the operations that
leave the block alone or clear it. -/

namespace Sys2Proof.Machine

/-! The events a step takes. -/

theorem runWord_ok {w : TWord} {i : Instr} (hd : decode w = .ok i) (ready : Bool) (s : State) :
    runWord w ready s = exec i (s.drive ready) := by
  simp only [runWord, hd]

theorem runWord_error {w : TWord} {why : IllegalWord} (hd : decode w = .error why) (ready : Bool) (s : State) :
    runWord w ready s = .refused (.illegalWord why) := by
  simp only [runWord, hd]

theorem step_idle {s : State} (hc : s.cfg.Legal) (hp : s.pending = []) : step s = .next s.idle := by
  rw [step, if_pos hc, stepEvent, hp]

theorem step_attach {s : State} {rest : List HostEvent} (hc : s.cfg.Legal) (hp : s.pending = .attachSink :: rest) :
    step s = .next (s.take rest).attach := by
  rw [step, if_pos hc, stepEvent, hp]

theorem step_illegalConfig {s : State} (hc : ¬ s.cfg.Legal) : step s = .refused .configOutsideSpec := by
  rw [step, if_neg hc]

/-- A step on a presented word that decodes is that operation, with the sink as the host drives it. -/
theorem step_decoded {s : State} {w : TWord} {ready : Bool} {rest : List HostEvent} {i : Instr} (hc : s.cfg.Legal)
    (hp : s.pending = .operation w ready :: rest) (hd : decode w = .ok i) :
    step s = exec i ((s.take rest).drive ready) := by
  rw [step_operation hc hp, runWord_ok hd]

/-- Settles O3: the refusals of `decode`, which the step passes on. -/
theorem reservedFieldsMakeTheOnlyIllegalWords : Obligations.ReservedFieldsMakeTheOnlyIllegalWords := by
  intro w
  refine ⟨decode_error_iff w, fun why s ready rest hd hc hp => ?_⟩
  rw [step_operation hc hp, runWord_error hd]

/-- Settles O6: the first event is taken, and no operation touches the rest of the list. -/
theorem stepRunsTheFirstPresentedOperation : Obligations.StepRunsTheFirstPresentedOperation := by
  intro s w ready rest i hc hp hd
  have hs := step_decoded hc hp hd
  refine ⟨hs, fun t ht => ?_⟩
  rw [hs, exec_next_iff] at ht
  rw [← ht, State.after_pending, State.drive_pending, State.take_pending]

/-- A 26-bit word passes through the 32 bits of a table row (log 14). -/
theorem State.withFetchWord_toNat (s : State) (w : TWord) : s.withFetchWord 32 w.toNat = s.present w := by
  have hw : w.toNat % 2 ^ 32 = w.toNat := Nat.mod_eq_of_lt (w.isLt.trans (by norm_num))
  simp only [State.withFetchWord, hw, wordOfNat_toNat]

/-- Settles O7: the placed word is the first event of the list and decodes to its operation. -/
theorem placedWordIsTheNextOperation : Obligations.PlacedWordIsTheNextOperation := by
  intro s i hc hi
  rw [State.withFetchWord_toNat]
  exact step_decoded (s := s.present (encode i)) hc (s.present_pending _) (decode_encode hi)

/-- Settles O9: by the three kinds of event, each of which completes, but for a word that decodes to nothing. -/
theorem stepCompletesUnlessConfigurationOrWordIsRefused :
    Obligations.StepCompletesUnlessConfigurationOrWordIsRefused := by
  intro s
  constructor
  · rintro ⟨t, ht⟩
    obtain ⟨hc, hev⟩ := step_cases ht
    refine ⟨hc, fun w ready rest hp => ?_⟩
    obtain ⟨hidle, -⟩ | ⟨_, hattach, -⟩ | ⟨_, _, _, i, hop, hd, -⟩ := hev
    · simp [hp] at hidle
    · simp [hp] at hattach
    · obtain ⟨⟨rfl, -⟩, -⟩ : (w = _ ∧ ready = _) ∧ rest = _ := by simpa [hp] using hop
      exact ⟨i, hd⟩
  · rintro ⟨hc, hdec⟩
    match hp : s.pending with
    | [] => exact ⟨_, step_idle hc hp⟩
    | .attachSink :: rest => exact ⟨_, step_attach hc hp⟩
    | .operation w ready :: rest =>
      obtain ⟨i, hd⟩ := hdec w ready rest hp
      exact ⟨_, (step_decoded hc hp hd).trans (exec_eq _ _)⟩

/-- Settles O10: both events end with the block held and the ports at 0. -/
theorem idleAndAttachLeaveTheBlock : Obligations.IdleAndAttachLeaveTheBlock :=
  fun _ hc => ⟨step_idle hc, fun _ => step_attach hc⟩

/-- Settles O11: `exec` is total, and its next state keeps the parameters and the host's side. -/
theorem everyOperationCompletes : Obligations.EveryOperationCompletes :=
  fun i s => ⟨s.after i, exec_eq i s, s.after_cfg i, s.after_pending i, s.after_sinkReady i, s.after_sinkAttached i⟩

/-- The reset values are the cleared block under the configuration's mask (10_state.md R58, 70_reset_and_hazards.md
R241). -/
theorem Block.reset_eq_clearedBlock (cfg : Config) : Block.reset cfg = clearedBlock cfg.resetEnableMask := rfl

/-- Settles O12: `RST` and power-on leave the same block. -/
theorem resetSetsEveryFieldToItsResetValue : Obligations.ResetSetsEveryFieldToItsResetValue := by
  refine ⟨fun s => ?_, Block.reset_eq_clearedBlock _⟩
  rw [exec_eq, State.after, State.settle_eq_withBlock, Block.reset_eq_clearedBlock]

/-- Whatever the address, a read decodes to a read operation (30_encoding.md R73). -/
theorem isRead_decodeRead (addr : Addr) : IsRead (decodeRead addr) := by
  unfold decodeRead
  split_ifs
  · exact .inl rfl
  · exact .inr ⟨addr, rfl⟩

theorem exec_read {i : Instr} (hi : IsRead i) (s : State) : exec i s = .next (s.withBlock s.blk) := by
  rw [exec_eq, State.after_read hi, State.settle_eq_withBlock]

/-- A write's address has no register exactly where it is none of the write targets (20_memory.md R61). -/
theorem decodeWrite_eq_wrUnmapped_iff (addr : Addr) (v : Byte) :
    decodeWrite addr v = .wrUnmapped addr v ↔ addr ∉ mappedWriteAddrs := by
  refine ⟨fun h => ?_, decodeWrite_unmapped addr v⟩
  have hwf := decodeWrite_wf addr v
  rw [h] at hwf
  simpa [Instr.wf] using hwf

/-- Settles O21: a read and an unmapped write both end with the block held and the ports at 0. -/
theorem readsAndUnmappedWritesLeaveTheBlock : Obligations.ReadsAndUnmappedWritesLeaveTheBlock := by
  intro addr v s
  exact ⟨rfl, exec_read (.inl rfl) s, exec_read (.inr ⟨addr, rfl⟩) s, exec_eq (.wrUnmapped addr v) s,
    exec_read (isRead_decodeRead addr) s, if_pos rfl, decodeWrite_eq_wrUnmapped_iff addr v⟩

end Sys2Proof.Machine
end

section
/-! The invariant (Safety.lean, State.Inv): every operation keeps the block's legal values, and its ports agree with the
block it leaves. -/

namespace Sys2Proof.Machine

theorem Block.setPulse_ok {cfg : Config} {b : Block} (h : b.Ok cfg) {p : Pulse} (hp : p.Ok cfg) (c : PulseIx) :
    (b.setPulse c p).Ok cfg := by
  obtain ⟨ha, h1, h2, ht⟩ := h
  cases c with
  | one => exact ⟨ha, hp, h2, ht⟩
  | two => exact ⟨ha, h1, hp, ht⟩

theorem Block.pulse_ok {cfg : Config} {b : Block} (h : b.Ok cfg) (c : PulseIx) : (b.pulse c).Ok cfg := by
  obtain ⟨-, h1, h2, -⟩ := h
  cases c with
  | one => exact h1
  | two => exact h2

theorem Block.setT_ok {cfg : Config} {b : Block} (h : b.Ok cfg) {t : Triangle} (ht : t.Ok cfg) : (b.setT t).Ok cfg :=
  ⟨h.1, h.2.1, h.2.2.1, ht⟩

theorem Block.setA_ok {cfg : Config} {b : Block} (h : b.Ok cfg) {a : Coordinator} (ha : a.Ok) : (b.setA a).Ok cfg :=
  ⟨ha, h.2⟩

theorem Block.reset_ok (cfg : Config) : (Block.reset cfg).Ok cfg :=
  ⟨Nat.zero_le _, Pulse.reset_ok cfg, Pulse.reset_ok cfg, Triangle.reset_ok cfg⟩

/-- A frame clock leaves a legal index, and without one the index stays (10_state.md R24). -/
theorem Coordinator.advanced_ok (cfg : Config) {a : Coordinator} (h : a.Ok) : (a.advanced cfg).Ok := by
  unfold Coordinator.Ok
  rw [Coordinator.advanced_frameStep]
  split_ifs
  · exact stepAfter_le _ _
  · exact h

theorem Block.advance_ok {cfg : Config} (hc : cfg.Legal) {b : Block} (h : b.Ok cfg) : (b.advance cfg).Ok cfg := by
  obtain ⟨ha, h1, h2, ht⟩ := h
  rw [Block.advance_eq]
  exact ⟨Coordinator.advanced_ok cfg ha, Pulse.advanced_ok h1 _, Pulse.advanced_ok h2 _, Triangle.advanced_ok hc ht _⟩

/-- Every operation keeps the legal values of the block. -/
theorem State.after_ok {s : State} (hc : s.cfg.Legal) (h : s.blk.Ok s.cfg) (i : Instr) :
    (s.after i).blk.Ok s.cfg := by
  have hp := Block.pulse_ok h
  have ht : s.blk.t.Ok s.cfg := h.2.2.2
  cases i with
  | adv => exact Block.advance_ok hc h
  | wrP1Ctrl v => exact Block.setPulse_ok h (Pulse.writeCtrl_ok (hp _) v) _
  | wrP1Sweep v => exact Block.setPulse_ok h (Pulse.writeSweep_ok (hp _) v) _
  | wrP1Tlo v => exact Block.setPulse_ok h (Pulse.writeTimerLow_ok hc (hp _) v) _
  | wrP1Thi v => exact Block.setPulse_ok h (Pulse.writeTimerHigh_ok hc (hp _) v) _
  | wrP2Ctrl v => exact Block.setPulse_ok h (Pulse.writeCtrl_ok (hp _) v) _
  | wrP2Sweep v => exact Block.setPulse_ok h (Pulse.writeSweep_ok (hp _) v) _
  | wrP2Tlo v => exact Block.setPulse_ok h (Pulse.writeTimerLow_ok hc (hp _) v) _
  | wrP2Thi v => exact Block.setPulse_ok h (Pulse.writeTimerHigh_ok hc (hp _) v) _
  | wrTriCtrl v => exact Block.setT_ok h (Triangle.writeCtrl_ok ht v)
  | wrTriTlo v => exact Block.setT_ok h (Triangle.writeTimerLow_ok ht v)
  | wrTriThi v => exact Block.setT_ok h (Triangle.writeTimerHigh_ok hc ht v)
  | wrApuEnable v => exact Block.setA_ok h h.1
  | wrFrameCtrl v => exact Block.setA_ok h h.1
  | wrUnmapped _ _ => exact h
  | rdStatus => exact h
  | rdOther _ => exact h
  | rst => exact Block.reset_ok s.cfg

/-- With every port at 0 only the sink's side is left to ask for. -/
theorem State.portsOk_of_quiet {s : State} (ho : s.out = Outputs.quiet) (hd : s.delivered = none)
    (hr : s.sinkReady = true → s.sinkAttached = true) : s.PortsOk := by
  unfold State.PortsOk
  rw [ho, hd]
  exact ⟨rfl, fun _ => rfl, fun hq => absurd hq Bool.false_ne_true, .inl rfl, hr⟩

/-- The interrupt rises only at step 3 of 4-step mode, enabled, and the index then wraps to 0 (60_exceptions.md
R223). -/
theorem Block.advance_of_irq {cfg : Config} {b : Block} (hq : b.advanceIrq cfg = true) :
    (b.advance cfg).a.frameMode = .fourStep ∧ (b.advance cfg).a.irqEnabled = true ∧
      (b.advance cfg).a.frameStep = 0#3 := by
  rw [Block.advanceIrq_eq, Bool.and_eq_true, irqAt_iff] at hq
  obtain ⟨hn, hm, h3, he⟩ := hq
  rw [Block.advance_a]
  refine ⟨hm, he, ?_⟩
  rw [Coordinator.advanced_frameStep, if_pos hn, hm, h3]
  rfl

/-- What the sink takes is what is offered, and only a ready sink takes (40_coordinator.md R118). -/
theorem State.after_adv_delivered_cases (s : State) :
    (s.after .adv).delivered = none ∨
      (s.after .adv).delivered = some (s.after .adv).out.sample ∧ (s.after .adv).out.sampleValid = true ∧
        s.sinkReady = true := by
  rw [State.after_adv_delivered, State.after_adv_out]
  cases s.blk.advanceSample s.cfg with
  | none => exact .inl (ite_self _)
  | some x =>
    cases s.sinkReady with
    | false => exact .inl rfl
    | true => exact .inr ⟨rfl, rfl, rfl⟩

theorem State.after_adv_portsOk {s : State} (hr : s.sinkReady = true → s.sinkAttached = true) :
    (s.after .adv).PortsOk := by
  refine ⟨rfl, fun hv => ?_, Block.advance_of_irq, s.after_adv_delivered_cases, hr⟩
  rw [State.after_adv_out, advanceOutputs_sampleValid, Option.isSome_eq_false_iff, Option.isNone_iff_eq_none] at hv
  rw [State.after_adv_out, advanceOutputs_sample, hv]
  rfl

/-- Every operation leaves ports that agree with its block. -/
theorem State.after_portsOk {s : State} (hr : s.sinkReady = true → s.sinkAttached = true) (i : Instr) :
    (s.after i).PortsOk := by
  by_cases hi : i = .adv
  · exact hi ▸ State.after_adv_portsOk hr
  · rw [s.after_settles i hi]
    exact State.portsOk_of_quiet rfl rfl hr

theorem State.after_inv {s : State} (hc : s.cfg.Legal) (hb : s.blk.Ok s.cfg)
    (hr : s.sinkReady = true → s.sinkAttached = true) (i : Instr) : (s.after i).Inv := by
  refine ⟨?_, ?_, State.after_portsOk hr i⟩
  · rwa [State.after_cfg]
  · rw [State.after_cfg]
    exact State.after_ok hc hb i

/-- A driven sink is ready only if one is attached (40_coordinator.md R118). -/
theorem State.attached_of_drive (s : State) (ready : Bool) (h : (s.drive ready).sinkReady = true) :
    (s.drive ready).sinkAttached = true :=
  (Bool.and_eq_true_iff.1 h).1

/-- Settles O43: by the three kinds of event a step takes. -/
theorem everyStepKeepsTheInvariant : Obligations.EveryStepKeepsTheInvariant := by
  rintro s t ⟨-, hb, hports⟩ hs
  obtain ⟨-, -, -, -, hr⟩ := hports
  obtain ⟨hc, ⟨-, rfl⟩ | ⟨rest, -, rfl⟩ | ⟨w, ready, rest, i, -, -, rfl⟩⟩ := step_cases hs
  · exact ⟨hc, hb, State.portsOk_of_quiet rfl rfl hr⟩
  · exact ⟨hc, hb, State.portsOk_of_quiet rfl rfl fun _ => rfl⟩
  · exact State.after_inv (s := (s.take rest).drive ready) hc hb ((s.take rest).attached_of_drive ready) i

/-- Settles O42: the reset block is legal in every configuration, the default one is legal, and the ports are 0. -/
theorem resetMeetsTheInvariant : Obligations.ResetMeetsTheInvariant :=
  ⟨by decide, Block.reset_ok _, State.portsOk_of_quiet rfl rfl fun h => absurd h Bool.false_ne_true⟩

/-- Settles O38: an operation other than `ADV` settles; the read data is 0 in either case. -/
theorem portsAreZeroOutsideTheirOperation : Obligations.PortsAreZeroOutsideTheirOperation := by
  intro i s t ht
  obtain rfl := (exec_next_iff i s t).1 ht
  by_cases hi : i = .adv
  · subst hi
    exact ⟨rfl, fun h => absurd rfl h⟩
  · rw [s.after_settles i hi]
    exact ⟨rfl, fun _ => ⟨rfl, rfl, rfl, rfl⟩⟩

end Sys2Proof.Machine
end

section
/-! Runs of operations from two states (10_state.md R18, R19, 41_pulse.md R140): a part of the block that an operation
does not read reaches no other part, and the sink reaches none at all. -/

namespace Sys2Proof.Machine

@[simp] theorem foldl_after_cfg (is : List Instr) (s : State) : (is.foldl State.after s).cfg = s.cfg :=
  foldl_after_induction (P := fun t => t.cfg = s.cfg) is s rfl fun i _ t h => (t.after_cfg i).trans h

@[simp] theorem foldl_after_sinkReady (is : List Instr) (s : State) :
    (is.foldl State.after s).sinkReady = s.sinkReady :=
  foldl_after_induction (P := fun t => t.sinkReady = s.sinkReady) is s rfl fun i _ t h => (t.after_sinkReady i).trans h

/-- A run with an operation in it ends with its last operation. -/
theorem foldl_after_of_ne_nil {is : List Instr} (h : is ≠ []) (s : State) :
    is.foldl State.after s = (is.dropLast.foldl State.after s).after (is.getLast h) := by
  conv_lhs => rw [← List.dropLast_append_getLast h]
  rw [List.foldl_append, List.foldl_cons, List.foldl_nil]

/-- What `mask` hides of the block does not reach, through operation `i`, what `mask` shows. -/
def HiddenFrom (mask : Block → Block) (i : Instr) : Prop :=
  ∀ s : State, mask (s.after i).blk = mask ({ s with blk := mask s.blk }.after i).blk

/-- Two states that agree but for what `mask` hides agree so after an operation it stays hidden from. -/
theorem HiddenFrom.after_eq {mask : Block → Block} {i : Instr} (h : HiddenFrom mask i) {s s' : State}
    (hc : s'.cfg = s.cfg) (hb : mask s'.blk = mask s.blk) : mask (s'.after i).blk = mask (s.after i).blk := by
  rw [h s', h s]
  exact congrArg mask
    (State.after_blk_congr (s := { s with blk := mask s.blk }) (s' := { s' with blk := mask s'.blk }) hc hb i)

/-! The enable flags. -/

/-- An advance reads no enable flag: its timers, clocks and index depend on the count, the mode and the channels. -/
theorem Block.maskEnables_advance (cfg : Config) (b : Block) :
    (b.advance cfg).maskEnables = (b.maskEnables.advance cfg).maskEnables := by
  rw [Block.advance_eq, Block.advance_eq]
  rfl

theorem hiddenFrom_maskEnables (i : Instr) : HiddenFrom Block.maskEnables i := by
  intro s
  cases i with
  | adv => exact Block.maskEnables_advance s.cfg s.blk
  | _ => rfl

theorem Block.advanceIrq_maskEnables (cfg : Config) (b : Block) :
    b.maskEnables.advanceIrq cfg = b.advanceIrq cfg := rfl

theorem Block.maskEnables_cycle (b : Block) : b.maskEnables.a.cycle = b.a.cycle := rfl

/-- The interrupt of an operation is the same in two states that agree but for the flags. -/
theorem State.after_irq_of_maskEnables {s s' : State} (hc : s'.cfg = s.cfg)
    (hb : s'.blk.maskEnables = s.blk.maskEnables) (i : Instr) : (s'.after i).out.irq = (s.after i).out.irq := by
  by_cases hi : i = .adv
  · subst hi
    rw [State.after_adv_irq, State.after_adv_irq, ← s'.blk.advanceIrq_maskEnables, hb, hc,
      Block.advanceIrq_maskEnables]
  · rw [s'.after_settles i hi, s.after_settles i hi, State.settle_out, State.settle_out]

/-- Whether an operation offers a sample is the same in two states that agree but for the flags. -/
theorem State.after_sampleValid_of_maskEnables {s s' : State} (hc : s'.cfg = s.cfg)
    (hb : s'.blk.maskEnables = s.blk.maskEnables) (i : Instr) :
    (s'.after i).out.sampleValid = (s.after i).out.sampleValid := by
  by_cases hi : i = .adv
  · subst hi
    rw [State.after_adv_sampleValid, State.after_adv_sampleValid, ← s'.blk.maskEnables_cycle, hb, hc,
      Block.maskEnables_cycle]
  · rw [s'.after_settles i hi, s.after_settles i hi, State.settle_out, State.settle_out]

/-- A sample that stands on the port of an advance is the mix of the block it leaves (40_coordinator.md R117). -/
theorem State.after_adv_sample_of_valid {s : State} (hv : (s.after .adv).out.sampleValid = true) :
    (s.after .adv).out.sample = (s.after .adv).blk.mix s.cfg := by
  rw [State.after_adv_sampleValid] at hv
  rw [State.after_adv_out, advanceOutputs_sample, Block.advanceSample, if_pos hv]
  rfl

/-- An offered sample is the mix of the block that offers it, whatever the operation. -/
theorem State.after_sample_of_valid {s : State} {i : Instr} (hv : (s.after i).out.sampleValid = true) :
    (s.after i).out.sample.toNat = mixedLevels s.cfg (s.after i).blk / 3 := by
  by_cases hi : i = .adv
  · subst hi
    rw [State.after_adv_sample_of_valid hv, Block.mix_toNat]
  · rw [s.after_settles i hi, State.settle_out] at hv
    exact absurd hv Bool.false_ne_true

/-- Settles O51: the flags stay hidden along both runs, and the last operation's ports depend on them through the mix
alone. -/
theorem enableFlagsReachOnlyTheSamples : Obligations.EnableFlagsReachOnlyTheSamples := by
  intro is s s' hc hb
  have hrun (js : List Instr) : (js.foldl State.after s').blk.maskEnables = (js.foldl State.after s).blk.maskEnables :=
    (List.foldl_rel (r := fun t' t : State => t'.cfg = t.cfg ∧ t'.blk.maskEnables = t.blk.maskEnables) ⟨hc, hb⟩
      fun i _ t' t ⟨hct, hbt⟩ => ⟨by simpa using hct, (hiddenFrom_maskEnables i).after_eq hct hbt⟩).2
  refine ⟨_, _, execAll_eq is s, execAll_eq is s', hrun is, fun hne => ?_⟩
  have hcl : (is.dropLast.foldl State.after s').cfg = (is.dropLast.foldl State.after s).cfg := by simpa using hc
  have hbl := hrun is.dropLast
  rw [foldl_after_of_ne_nil hne s, foldl_after_of_ne_nil hne s']
  have hv := State.after_sampleValid_of_maskEnables hcl hbl (is.getLast hne)
  refine ⟨State.after_irq_of_maskEnables hcl hbl _, hv, fun ht => ⟨?_, ?_⟩⟩
  · simpa using State.after_sample_of_valid ht
  · simpa [hc] using State.after_sample_of_valid (hv.trans ht)

/-! Pulse channel 1. -/

/-- An advance reads pulse 1 only to advance it. -/
theorem Block.maskP1_advance (cfg : Config) (b : Block) :
    (b.advance cfg).maskP1 = (b.maskP1.advance cfg).maskP1 := by
  rw [Block.advance_eq, Block.advance_eq]
  rfl

theorem hiddenFrom_maskP1 (i : Instr) : HiddenFrom Block.maskP1 i := by
  intro s
  cases i with
  | adv => exact Block.maskP1_advance s.cfg s.blk
  | _ => rfl

/-- A write to pulse 1 leaves all the rest of the block (41_pulse.md R141). -/
theorem State.after_maskP1_of_writesP1 (s : State) {i : Instr} (h : writesP1 i = true) :
    (s.after i).blk.maskP1 = s.blk.maskP1 := by
  cases i with
  | wrP1Ctrl _ => rfl
  | wrP1Sweep _ => rfl
  | wrP1Tlo _ => rfl
  | wrP1Thi _ => rfl
  | _ => exact nomatch h

/-- Settles O53: an operation that writes pulse 1 moves the unfiltered run alone, within what is hidden; any other moves
both runs and keeps pulse 1 hidden. -/
theorem pulseOneReachesNoOtherUnit : Obligations.PulseOneReachesNoOtherUnit := by
  intro is s s' hc hb
  refine ⟨_, _, execAll_eq is s, execAll_eq _ s', ?_⟩
  rw [List.foldl_filter]
  refine (List.foldl_rel (r := fun t' t : State => t'.cfg = t.cfg ∧ t'.blk.maskP1 = t.blk.maskP1) ⟨hc, hb⟩ ?_).2
  rintro i - t' t ⟨hct, hbt⟩
  cases hw : writesP1 i with
  | true => exact ⟨by simpa using hct, hbt.trans (t.after_maskP1_of_writesP1 hw).symm⟩
  | false => exact ⟨by simpa using hct, (hiddenFrom_maskP1 i).after_eq hct hbt⟩

/-! The sink. -/

theorem State.after_out_congr {s s' : State} (hc : s'.cfg = s.cfg) (hb : s'.blk = s.blk) (i : Instr) :
    (s'.after i).out = (s.after i).out := by
  by_cases hi : i = .adv
  · subst hi
    rw [State.after_adv_out, State.after_adv_out, hc, hb]
  · rw [s'.after_settles i hi, s.after_settles i hi, State.settle_out, State.settle_out]

/-- A sink that is not ready takes nothing (40_coordinator.md R118). -/
theorem State.after_delivered_of_not_ready {s : State} (hr : s.sinkReady = false) (i : Instr) :
    (s.after i).delivered = none := by
  by_cases hi : i = .adv
  · subst hi
    rw [State.after_adv_delivered, hr]
    rfl
  · rw [s.after_settles i hi, State.settle_delivered]

/-- Settles O52: no operation reads the sink, but to deliver. -/
theorem droppedSamplesLeaveNoTrace : Obligations.DroppedSamplesLeaveNoTrace := by
  intro is s ready attached
  refine ⟨_, _, execAll_eq is s, execAll_eq is _, ?_⟩
  obtain ⟨-, hblk, hout⟩ := List.foldl_rel (l := is) (f := State.after) (g := State.after)
    (a := { s with sinkReady := ready, sinkAttached := attached }) (b := s)
    (r := fun t' t : State => t'.cfg = t.cfg ∧ t'.blk = t.blk ∧ t'.out = t.out) ⟨rfl, rfl, rfl⟩
    fun i _ t' t ⟨hct, hbt, _⟩ =>
      ⟨by simpa using hct, State.after_blk_congr hct hbt i, State.after_out_congr hct hbt i⟩
  refine ⟨hblk, hout, fun hne hr => ?_⟩
  rw [foldl_after_of_ne_nil hne]
  exact State.after_delivered_of_not_ready (by simpa using hr) _

end Sys2Proof.Machine
end

section
/-! Exchanging the pulse channels (10_state.md R27): one advance treats them alike, and the mixer adds their levels. -/

namespace Sys2Proof.Machine

theorem Block.advance_swapPulses (cfg : Config) (b : Block) :
    b.swapPulses.advance cfg = (b.advance cfg).swapPulses := by
  rw [Block.advance_eq, Block.advance_eq]
  rfl

theorem Block.advanceIrq_swapPulses (cfg : Config) (b : Block) :
    b.swapPulses.advanceIrq cfg = b.advanceIrq cfg := rfl

theorem Block.mix_swapPulses (cfg : Config) (b : Block) : b.swapPulses.mix cfg = b.mix cfg := by
  have hsum : b.swapPulses.mixSum cfg = b.mixSum cfg := by
    unfold Block.mixSum Block.swapPulses
    rw [Nat.add_comm (if b.a.enP2 then _ else _)]
  rw [Block.mix, Block.mix, hsum]

theorem Block.advanceSample_swapPulses (cfg : Config) (b : Block) :
    b.swapPulses.advanceSample cfg = b.advanceSample cfg := by
  rw [Block.advanceSample, Block.advanceSample, Block.advance_swapPulses, Block.mix_swapPulses]
  rfl

theorem State.after_adv_swapPulses (s : State) : s.swapPulses.after .adv = (s.after .adv).swapPulses := by
  simp only [State.after, State.swapPulses, Block.advance_swapPulses, Block.advanceIrq_swapPulses,
    Block.advanceSample_swapPulses]
  rfl

/-- Settles O54: the advance commutes with the exchange, and the writes are one operation at the other channel. -/
theorem pulseChannelsAreInterchangeable : Obligations.PulseChannelsAreInterchangeable := by
  simp only [Obligations.PulseChannelsAreInterchangeable, exec_next_iff]
  refine ⟨fun s t h => ?_, fun v s t => ⟨?_, ?_, ?_, ?_⟩⟩
  · rw [s.after_adv_swapPulses, h]
  · rintro rfl; rfl
  · rintro rfl; rfl
  · rintro rfl; rfl
  · rintro rfl; rfl

end Sys2Proof.Machine
end

section
/-! Silence after a reset (70_reset_and_hazards.md R243): with every length value 0 no channel sounds, and only a
timer-high write ends that. -/

namespace Sys2Proof.Machine

/-- The three length values are 0. -/
def Block.Silent (b : Block) : Prop :=
  b.p1.lengthValue = 0#8 ∧ b.p2.lengthValue = 0#8 ∧ b.t.lengthValue = 0#8

theorem Pulse.output_of_lengthValue {p : Pulse} (h : p.lengthValue = 0#8) (cfg : Config) : p.output cfg = 0#4 :=
  if_pos h

theorem Triangle.output_of_lengthValue {t : Triangle} (h : t.lengthValue = 0#8) : t.output = 0#4 :=
  if_neg fun hs => ((triangleSounds_iff t).1 hs).1 h

theorem Block.Silent.mix_eq {b : Block} (h : b.Silent) (cfg : Config) : b.mix cfg = 0#4 := by
  obtain ⟨h1, h2, ht⟩ := h
  simp [Block.mix, Block.mixSum, Pulse.output_of_lengthValue h1, Pulse.output_of_lengthValue h2,
    Triangle.output_of_lengthValue ht]

/-- A length counter at 0 stays there (41_pulse.md R166). -/
theorem Block.Silent.advance {b : Block} (h : b.Silent) (cfg : Config) : (b.advance cfg).Silent := by
  obtain ⟨h1, h2, ht⟩ := h
  simp [Block.Silent, Pulse.advanced_lengthValue, Triangle.advanced_lengthValue, h1, h2, ht]

/-- Only a timer-high write loads a length counter (41_pulse.md R167, 42_triangle.md R194). -/
theorem State.after_silent {s : State} (h : s.blk.Silent) {i : Instr} (hi : isTimerHigh i = false) :
    (s.after i).blk.Silent := by
  cases i with
  | adv => exact h.advance s.cfg
  | wrP1Thi _ => exact nomatch hi
  | wrP2Thi _ => exact nomatch hi
  | wrTriThi _ => exact nomatch hi
  | rst => exact ⟨rfl, rfl, rfl⟩
  | _ => exact h

/-- An operation that leaves a silent block puts 0 on the sample port. -/
theorem State.after_sample_of_silent {s : State} {i : Instr} (h : (s.after i).blk.Silent) :
    (s.after i).out.sample = 0#4 := by
  by_cases hi : i = .adv
  · subst hi
    rw [State.after_adv_out, advanceOutputs_sample, Block.advanceSample]
    split_ifs
    · exact h.mix_eq s.cfg
    · rfl
  · rw [s.after_settles i hi, State.settle_out, Outputs.quiet_sample]

/-- Only a frame-counter write with bit 6 clear enables the interrupt (40_coordinator.md R109). -/
theorem State.after_irqEnabled {s : State} (h : s.blk.a.irqEnabled = false) {i : Instr} (hi : enablesIrq i = false) :
    (s.after i).blk.a.irqEnabled = false := by
  cases i with
  | wrFrameCtrl v => exact hi
  | adv => rw [State.after_adv_blk, Block.advance_a, Coordinator.advanced_irqEnabled, h]
  | rst => rfl
  | _ => exact h

/-- With the interrupt disabled no operation raises it (40_coordinator.md R110). -/
theorem State.after_irq_of_disabled {s : State} (h : s.blk.a.irqEnabled = false) (i : Instr) :
    (s.after i).out.irq = false := by
  by_cases hi : i = .adv
  · subst hi
    rw [State.after_adv_irq, Bool.eq_false_iff]
    intro hq
    have he := (Block.advance_of_irq hq).2.1
    rw [Block.advance_a, Coordinator.advanced_irqEnabled, h] at he
    exact Bool.false_ne_true he
  · rw [s.after_settles i hi, State.settle_out, Outputs.quiet_irq]

/-- Settles O50: silence and the disabled interrupt hold after `RST` and along the run. -/
theorem silentAfterResetUntilTimerHigh : Obligations.SilentAfterResetUntilTimerHigh := by
  intro is s t ht
  rw [execAll_eq, List.foldl_cons] at ht
  injection ht with ht
  constructor
  · intro hhigh
    obtain ⟨hsil, hsample⟩ : t.blk.Silent ∧ t.out.sample = 0#4 := by
      rw [← ht]
      refine foldl_after_induction (P := fun u => u.blk.Silent ∧ u.out.sample = 0#4) is _ ⟨⟨rfl, rfl, rfl⟩, rfl⟩ ?_
      rintro i hi u ⟨hu, -⟩
      have hu' := State.after_silent hu (hhigh i hi)
      exact ⟨hu', State.after_sample_of_silent hu'⟩
    obtain ⟨h1, h2, h3⟩ := hsil
    exact ⟨h1, h2, h3, Pulse.output_of_lengthValue h1 _, Pulse.output_of_lengthValue h2 _,
      Triangle.output_of_lengthValue h3, hsample⟩
  · intro hirq
    rw [← ht]
    refine (foldl_after_induction (P := fun u => u.blk.a.irqEnabled = false ∧ u.out.irq = false) is _
      ⟨rfl, rfl⟩ ?_).2
    rintro i hi u ⟨hu, -⟩
    exact ⟨State.after_irqEnabled hu (hirq i hi), State.after_irq_of_disabled hu i⟩

end Sys2Proof.Machine
end

section
/-! One advance against the spec's clocks (40_coordinator.md R100 to R107): the timers, the envelope, linear, sweep and
length clocks as Safety.lean words them, each on its own events. -/

namespace Sys2Proof.Machine

/-- Counting a non-zero register down by 1 never wraps. -/
theorem toNat_sub_one_of_ne_zero {w : Nat} {x : BitVec w} (h : x ≠ 0#w) : (x - 1#w).toNat = x.toNat - 1 := by
  have hx : 0 < x.toNat := Nat.pos_of_ne_zero fun h0 => h (BitVec.eq_of_toNat_eq (by simpa using h0))
  have h1 : 1 < 2 ^ w := Nat.lt_of_le_of_lt hx x.isLt
  have hone : (1#w).toNat = 1 := by rw [BitVec.toNat_ofNat, Nat.mod_eq_of_lt h1]
  rw [BitVec.toNat_sub_of_le (by rw [BitVec.le_def, hone]; exact hx), hone]

/-! The timers. -/

/-- The timer clock does what 41_pulse.md R152 says. -/
theorem Pulse.timerClock_timerClocked (p : Pulse) : p.TimerClocked p.timerClock := by
  unfold Pulse.TimerClocked
  rw [p.timerClock_timerCounter, p.timerClock_dutyStep]
  refine ⟨fun h => ?_, fun h => ?_⟩
  · rw [if_pos h, if_pos h, BitVec.toNat_add]
    exact ⟨rfl, rfl⟩
  · rw [if_neg h, if_neg h]
    exact ⟨rfl, rfl⟩

/-- An even count clocks the pulse timer (40_coordinator.md R103). -/
theorem Pulse.timed_of_even {a : Coordinator} (h : a.cycle % 2 = 0) (p : Pulse) : p.timed a = p.timerClock := by
  simp [Pulse.timed, pulseTimersClocked, h]

/-- An odd count holds the pulse timer (40_coordinator.md R103). -/
theorem Pulse.timed_of_odd {a : Coordinator} (h : a.cycle % 2 = 1) (p : Pulse) : p.timed a = p := by
  simp [Pulse.timed, pulseTimersClocked, h]

theorem Pulse.advanced_timerClocked (cfg : Config) {a : Coordinator} (h : a.cycle % 2 = 0) (p : Pulse) :
    p.TimerClocked (p.advanced cfg a) := by
  unfold Pulse.TimerClocked
  rw [Pulse.advanced_timerCounter, Pulse.advanced_dutyStep, Pulse.timed_of_even h]
  exact p.timerClock_timerClocked

theorem Pulse.advanced_timerHeld (cfg : Config) {a : Coordinator} (h : a.cycle % 2 = 1) (p : Pulse) :
    p.TimerHeld (p.advanced cfg a) := by
  unfold Pulse.TimerHeld
  rw [Pulse.advanced_timerCounter, Pulse.advanced_dutyStep, Pulse.timed_of_odd h]
  exact ⟨rfl, rfl⟩

/-- Settles O28: by the parity of the count. -/
theorem pulseTimersAreClockedOnEvenCycles : Obligations.PulseTimersAreClockedOnEvenCycles := by
  intro s
  refine ⟨_, exec_eq .adv s, fun h => ?_, fun h => ?_⟩
  · rw [State.after_adv_blk, Block.advance_p1, Block.advance_p2]
    exact ⟨Pulse.advanced_timerClocked _ h _, Pulse.advanced_timerClocked _ h _⟩
  · rw [State.after_adv_blk, Block.advance_p1, Block.advance_p2]
    exact ⟨Pulse.advanced_timerHeld _ h _, Pulse.advanced_timerHeld _ h _⟩

/-- Settles O29: the clocks of the frame sequencer leave the triangle's timer counter and step alone. -/
theorem triangleTimerIsClockedEveryAdvance : Obligations.TriangleTimerIsClockedEveryAdvance := by
  intro s
  refine ⟨_, exec_eq .adv s, ?_⟩
  rw [State.after_adv_blk, Block.advance_t, Triangle.advanced_timerCounter, Triangle.advanced_step,
    Triangle.timerClock_timerCounter, Triangle.timerClock_step]
  refine ⟨fun h0 => ⟨if_pos h0, fun hs => ?_, fun hs => if_neg fun h => hs h.2⟩,
    fun h0 => ⟨if_neg h0, if_neg fun h => h0 h.1⟩⟩
  rw [if_pos ⟨h0, hs⟩, BitVec.toNat_add]
  rfl

/-! The envelope. -/

/-- A decay event (41_pulse.md R155). -/
theorem Pulse.decayed_toNat {p : Pulse} (h : p.envDecay ≠ 0#4) : p.decayed.toNat = p.envDecay.toNat - 1 := by
  rw [Pulse.decayed, if_pos h]
  exact toNat_sub_one_of_ne_zero h

theorem Pulse.decayed_of_zero {p : Pulse} (h : p.envDecay = 0#4) :
    p.decayed = if p.envLoop then 15#4 else 0#4 := by
  simp [Pulse.decayed, h]

/-- The envelope clock does what 41_pulse.md R155 says. -/
theorem Pulse.envClock_envClocked (p : Pulse) : p.EnvClocked p.envClock := by
  refine ⟨p.envClock_envStart, fun h => ?_, fun h hd => ?_, fun h hd => ?_⟩
  · rw [p.envClock_started h]
    exact ⟨rfl, rfl⟩
  · rw [p.envClock_counting h hd]
    exact ⟨toNat_sub_one_of_ne_zero hd, rfl⟩
  · rw [p.envClock_decaying h hd]
    refine ⟨rfl, Pulse.decayed_toNat, fun h0 hl => ?_, fun h0 hl => ?_⟩
    · exact (Pulse.decayed_of_zero h0).trans (if_pos hl)
    · exact (Pulse.decayed_of_zero h0).trans (if_neg (by simp [hl]))

theorem Pulse.advanced_envClocked {cfg : Config} {a : Coordinator} (h : quarterNow cfg a = true) (p : Pulse) :
    p.EnvClocked (p.advanced cfg a) := by
  unfold Pulse.EnvClocked
  rw [Pulse.advanced_envStart, Pulse.advanced_envDivider, Pulse.advanced_envDecay, if_pos h, if_pos h, if_pos h]
  exact p.envClock_envClocked

theorem Pulse.advanced_envHeld {cfg : Config} {a : Coordinator} (h : ¬ quarterNow cfg a = true) (p : Pulse) :
    p.EnvHeld (p.advanced cfg a) := by
  unfold Pulse.EnvHeld
  rw [Pulse.advanced_envStart, Pulse.advanced_envDivider, Pulse.advanced_envDecay, if_neg h, if_neg h, if_neg h]
  exact ⟨rfl, rfl, rfl⟩

/-- Settles O32: an advance writes the envelope's registers by its quarter clock alone. -/
theorem envelopeIsClockedOnQuarterClocks : Obligations.EnvelopeIsClockedOnQuarterClocks := by
  intro s
  refine ⟨_, exec_eq .adv s, ?_⟩
  rw [quarterEvent_iff, State.after_adv_blk, Block.advance_p1, Block.advance_p2]
  exact ⟨fun h => ⟨Pulse.advanced_envClocked h _, Pulse.advanced_envClocked h _⟩,
    fun h => ⟨Pulse.advanced_envHeld h _, Pulse.advanced_envHeld h _⟩⟩

/-! The linear counter. -/

/-- Without a pending reload the linear counter counts down to 0 (42_triangle.md R197). -/
theorem Triangle.linClock_linValue_toNat {t : Triangle} (h : t.linReload = false) :
    t.linClock.linValue.toNat = t.linValue.toNat - 1 := by
  rw [t.linClock_linValue, h, if_neg Bool.false_ne_true]
  split_ifs with h0
  · exact toNat_sub_one_of_ne_zero h0
  · rw [not_not.1 h0]
    rfl

/-- Settles O33: an advance writes the linear counter by its quarter clock alone. -/
theorem linearCounterIsClockedOnQuarterClocks : Obligations.LinearCounterIsClockedOnQuarterClocks := by
  intro s
  refine ⟨_, exec_eq .adv s, ?_⟩
  rw [quarterEvent_iff, State.after_adv_blk, Block.advance_t, Triangle.advanced_linValue, Triangle.advanced_linReload]
  refine ⟨fun h => ?_, fun h => ?_⟩
  · rw [if_pos h, if_pos h, Triangle.linClock_linReload]
    refine ⟨fun hr => ?_, Triangle.linClock_linValue_toNat, fun he => if_pos he, fun he => if_neg (by simp [he])⟩
    rw [Triangle.linClock_linValue, if_pos hr]
  · rw [if_neg h, if_neg h]
    exact ⟨rfl, rfl⟩

/-! The sweep. -/

theorem Pulse.sweepTarget_eq_adjustedPeriod (w : Nat) (p : Pulse) : p.sweepTarget w = p.adjustedPeriod w := by
  unfold Pulse.adjustedPeriod
  split_ifs with h
  · exact p.sweepTarget_negate w h
  · exact p.sweepTarget_add w (Bool.eq_false_iff.2 h)

/-- The sweep clock does what 41_pulse.md R159 and R164 say. -/
theorem Pulse.sweepClock_sweepClocked (w : Nat) (p : Pulse) : p.SweepClocked w (p.sweepClock w) := by
  unfold Pulse.SweepClocked
  rw [Pulse.sweepClock_sweepDivider, Pulse.sweepClock_timerPeriod, Pulse.sweepTarget_eq_adjustedPeriod]
  refine ⟨p.sweepClock_sweepReload w, fun h => if_pos h, fun hr hd => ?_, fun h => if_pos h, fun h => if_neg h⟩
  rw [if_neg (by simp [hr, hd])]
  exact toNat_sub_one_of_ne_zero hd

theorem Pulse.advanced_sweepClocked {cfg : Config} {a : Coordinator} (h : halfNow cfg a = true) (p : Pulse) :
    p.SweepClocked cfg.periodW (p.advanced cfg a) := by
  have hc := p.sweepClock_sweepClocked cfg.periodW
  unfold Pulse.SweepClocked at hc ⊢
  rw [Pulse.advanced_sweepReload, Pulse.advanced_sweepDivider, Pulse.advanced_timerPeriod, if_pos h, if_pos h, if_pos h]
  exact ⟨rfl, hc.2⟩

theorem Pulse.advanced_sweepHeld {cfg : Config} {a : Coordinator} (h : ¬ halfNow cfg a = true) (p : Pulse) :
    p.SweepHeld (p.advanced cfg a) := by
  unfold Pulse.SweepHeld
  rw [Pulse.advanced_sweepReload, Pulse.advanced_sweepDivider, Pulse.advanced_timerPeriod, if_neg h, if_neg h, if_neg h]
  exact ⟨rfl, rfl, rfl⟩

/-- Settles O34: an advance writes the sweep's registers and the period by its half clock alone. -/
theorem sweepIsClockedOnHalfClocks : Obligations.SweepIsClockedOnHalfClocks := by
  intro s
  refine ⟨_, exec_eq .adv s, ?_⟩
  rw [halfEvent_iff, State.after_adv_blk, Block.advance_p1, Block.advance_p2]
  exact ⟨fun h => ⟨Pulse.advanced_sweepClocked h _, Pulse.advanced_sweepClocked h _⟩,
    fun h => ⟨Pulse.advanced_sweepHeld h _, Pulse.advanced_sweepHeld h _⟩⟩

/-- Settles O41: an 11-bit period at most doubles, which fits 12 bits; at shift 0 the difference is the period. -/
theorem sweepSumWrapsAtThePeriodWidth : Obligations.SweepSumWrapsAtThePeriodWidth := by
  intro w p
  refine ⟨fun hn => ?_, fun hw hn hp => ?_, fun hs hn => ?_, fun hs hn => ?_⟩
  · rw [p.sweepTarget_add w hn]
    exact ⟨Nat.mod_lt _ (Nat.two_pow_pos w), rfl⟩
  · have hdelta := Nat.div_le_self p.timerPeriod (2 ^ p.sweepShift.toNat)
    have hwidth : 2 ^ 12 ≤ 2 ^ w := Nat.pow_le_pow_right (by norm_num) hw
    rw [p.sweepTarget_add w hn, Nat.mod_eq_of_lt (by omega)]
    exact ⟨rfl, by omega⟩
  · simp [p.sweepTarget_negate w hn, hs]
  · simp [p.sweepTarget_add w hn, hs, Nat.two_mul]

/-! The length counters. -/

/-- The decrement is the length clock of 41_pulse.md R166 and 42_triangle.md R199. -/
theorem lengthClocked_lengthDown (enabled : Bool) (v : BitVec 8) : LengthClocked enabled v (lengthDown enabled v) := by
  cases enabled with
  | true => exact ⟨fun _ => lengthDown_toNat true v, fun h => nomatch h⟩
  | false => exact ⟨fun h => (nomatch h), fun _ => rfl⟩

/-- Settles O35: an advance writes the length values by its half clock alone. -/
theorem lengthCountersAreClockedOnHalfClocks : Obligations.LengthCountersAreClockedOnHalfClocks := by
  intro s
  refine ⟨_, exec_eq .adv s, ?_⟩
  rw [halfEvent_iff, State.after_adv_blk, Block.advance_p1, Block.advance_p2, Block.advance_t,
    Pulse.advanced_lengthValue, Pulse.advanced_lengthValue, Triangle.advanced_lengthValue]
  refine ⟨fun h => ?_, fun h => ⟨if_neg h, if_neg h, if_neg h⟩⟩
  rw [if_pos h, if_pos h, if_pos h]
  exact ⟨lengthClocked_lengthDown _ _, lengthClocked_lengthDown _ _, lengthClocked_lengthDown _ _⟩

/-- An operation that is no advance and no reset loads a pulse's length value by that pulse's timer-high write alone. -/
theorem State.after_lengthValue_unloaded (s : State) {i : Instr} (ha : i ≠ .adv) (hr : i ≠ .rst) :
    ((∀ v, i ≠ .wrP1Thi v) → (s.after i).blk.p1.lengthValue = s.blk.p1.lengthValue) ∧
      ((∀ v, i ≠ .wrP2Thi v) → (s.after i).blk.p2.lengthValue = s.blk.p2.lengthValue) := by
  cases i with
  | adv => exact absurd rfl ha
  | rst => exact absurd rfl hr
  | wrP1Thi v => exact ⟨fun h => absurd rfl (h v), fun _ => rfl⟩
  | wrP2Thi v => exact ⟨fun _ => rfl, fun h => absurd rfl (h v)⟩
  | _ => exact ⟨fun _ => rfl, fun _ => rfl⟩

/-- Settles O40: the load and the reset are evaluated, the advance is O35's, the rest changes nothing. -/
theorem pulseLengthValuesChangeOnlyByLoadClockAndReset :
    Obligations.PulseLengthValuesChangeOnlyByLoadClockAndReset := by
  intro i s t ht
  obtain rfl := (exec_next_iff i s t).1 ht
  obtain ⟨u, hu, hclocked, hheld⟩ := lengthCountersAreClockedOnHalfClocks s
  obtain rfl := (exec_next_iff .adv s u).1 hu
  refine ⟨?_, ?_, ?_, ?_, fun hr hnot => ?_⟩
  · rintro v rfl; rfl
  · rintro v rfl; rfl
  · rintro rfl; exact ⟨rfl, rfl⟩
  · rintro rfl hh
    obtain ⟨h1, h2, -⟩ := hclocked hh
    exact ⟨h1, h2⟩
  · by_cases ha : i = .adv
    · subst ha
      obtain ⟨h1, h2, -⟩ := hheld fun hh => hnot ⟨rfl, hh⟩
      exact ⟨fun _ => h1, fun _ => h2⟩
    · exact s.after_lengthValue_unloaded ha hr

/-! The coordinator. -/

theorem Pulse.keepsProgrammed_advanced (cfg : Config) (a : Coordinator) (p : Pulse) :
    p.KeepsProgrammed (p.advanced cfg a) := by
  simp [Pulse.KeepsProgrammed]

/-- Settles O26: unit by unit. -/
theorem advanceKeepsEveryProgrammedField : Obligations.AdvanceKeepsEveryProgrammedField := by
  intro s
  refine ⟨_, exec_eq .adv s, ?_⟩
  rw [State.after_adv_blk, Block.advance_eq]
  exact ⟨rfl, rfl, rfl, rfl, rfl, rfl, Pulse.keepsProgrammed_advanced _ _ _, Pulse.keepsProgrammed_advanced _ _ _,
    Triangle.advanced_timerPeriod _ _ _, Triangle.advanced_linPeriod _ _ _, Triangle.advanced_lengthEnabled _ _ _⟩

theorem Block.tick_eq_timedAndCounted (b : Block) : b.tick = b.timedAndCounted := by
  simp [Block.tick, Block.timers, Block.setA, Block.timedAndCounted, pulseTimersClocked]

/-- Settles O27: the frame clock runs on the block with its timers clocked and its count incremented, and the sample is
the mix of what it leaves. -/
theorem advanceRunsTimersIncrementFrameClockSample : Obligations.AdvanceRunsTimersIncrementFrameClockSample := by
  intro s
  refine ⟨_, exec_eq .adv s, ?_⟩
  rw [frameEvent_iff, sampleEvent_iff, State.after_adv_sampleValid]
  refine ⟨fun hf => ?_, fun hf => ?_, fun hs => ⟨hs, State.after_adv_sample_of_valid ?_⟩, Bool.eq_false_iff.2⟩
  · rw [State.after_adv_blk, Block.advance, if_pos hf, Block.tick_eq_timedAndCounted]
  · rw [State.after_adv_blk, Block.advance, if_neg hf, Block.tick_eq_timedAndCounted]
  · rw [State.after_adv_sampleValid, hs]

/-- Settles O36: a crossing offers the mix of the block the advance leaves; without one nothing stands on the port. -/
theorem sampleIsTheMixedOutputOfEnabledChannels : Obligations.SampleIsTheMixedOutputOfEnabledChannels := by
  intro s
  refine ⟨_, exec_eq .adv s, ?_⟩
  rw [sampleEvent_iff, State.after_adv_sampleValid, State.after_adv_delivered]
  refine ⟨fun hs => ⟨hs, State.after_sample_of_valid ?_, mixedLevels_le _ _, fun hr => ?_, fun hr => ?_⟩, fun hs => ?_⟩
  · rw [State.after_adv_sampleValid, hs]
  · rw [State.after_adv_out, Block.advanceSample, if_pos hs, hr]
    rfl
  · rw [hr]
    rfl
  · rw [State.after_adv_out, Block.advanceSample, if_neg hs]
    exact ⟨Bool.eq_false_iff.2 hs, rfl, ite_self _⟩

/-- Settles O37: the interrupt of an advance, by the step table; any other operation settles. -/
theorem interruptRisesOnlyAtStepThreeOfFourStepMode : Obligations.InterruptRisesOnlyAtStepThreeOfFourStepMode := by
  refine ⟨fun s => ⟨_, exec_eq .adv s, ?_⟩, fun i s t hi ht => ?_⟩
  · rw [frameEvent_iff, State.after_adv_irq, Block.advanceIrq_eq, Bool.and_eq_true, irqAt_iff, frameNow]
  · rw [← (exec_next_iff i s t).1 ht, s.after_settles i hi, State.settle_out, Outputs.quiet_irq]

/-- Settles O39: operation by operation. -/
theorem onlyAdvanceAndResetChangeTheCycleCount : Obligations.OnlyAdvanceAndResetChangeTheCycleCount := by
  intro i s t ht
  obtain rfl := (exec_next_iff i s t).1 ht
  cases i with
  | adv => exact ⟨fun _ => by rw [State.after_adv_blk, Block.advance_a, Coordinator.advanced_cycle],
      fun h => (nomatch h), fun h => absurd rfl h⟩
  | rst => exact ⟨fun h => (nomatch h), fun _ => rfl, fun _ h => absurd rfl h⟩
  | _ => exact ⟨fun h => (nomatch h), fun h => (nomatch h), fun _ _ => rfl⟩

/-- An advance moves the step index exactly where it runs a frame clock (40_coordinator.md R110). -/
theorem Coordinator.advanced_frameStep_ne_iff (cfg : Config) (a : Coordinator) :
    (a.advanced cfg).frameStep ≠ a.frameStep ↔ frameNow cfg a = true := by
  rw [Coordinator.advanced_frameStep]
  split_ifs with h
  · exact iff_of_true (stepAfter_ne _ _) h
  · exact iff_of_false (fun hne => hne rfl) h

/-- Settles O8: a short period is outside every legal configuration; one of at least 1 is passed at most once. -/
theorem periodsBelowOneAreRefusedAndEventsFireOncePerAdvance :
    Obligations.PeriodsBelowOneAreRefusedAndEventsFireOncePerAdvance := by
  refine ⟨fun s hshort => step_illegalConfig fun hc => ?_, fun p c hp => periodsPassed_succ p c hp, fun s hc => ?_⟩
  · obtain ⟨⟨-, hframe⟩, ⟨-, hsample⟩, -⟩ := hc
    omega
  · obtain ⟨hframe, hsample, -⟩ := hc
    refine ⟨_, exec_eq .adv s, ?_⟩
    rw [State.after_adv_sampleValid, State.after_adv_blk, Block.advance_a, Coordinator.advanced_cycle]
    refine ⟨rfl, ?_, periodsPassed_succ _ _ hsample⟩
    rw [periodsPassed_succ _ _ hframe]
    simp only [Coordinator.advanced_frameStep_ne_iff, frameNow]

end Sys2Proof.Machine
end

section
/-! The frame sequencer (40_coordinator.md R110 to R115): the frame clock by the rows of its step tables. -/

namespace Sys2Proof.Machine

section
variable (cfg : Config) {b : Block} {m : FrameMode} {i : BitVec 3} (hm : b.a.frameMode = m) (hi : b.a.frameStep = i)
include hm hi

/-- A row with a quarter clock alone. -/
theorem Block.frameClock_quarter (hq : quarterAt m i = true) (hh : halfAt m i = false) :
    b.frameClock cfg = b.quarterClocked.atStep (stepAfter m i) := by
  subst hm hi
  rw [Block.frameClock, hq, hh]
  rfl

/-- A row with a quarter and a half clock. -/
theorem Block.frameClock_half (hq : quarterAt m i = true) (hh : halfAt m i = true) :
    b.frameClock cfg = (b.quarterClocked.halfClocked cfg).atStep (stepAfter m i) := by
  subst hm hi
  rw [Block.frameClock, hq, hh]
  rfl

/-- A row with no clock. -/
theorem Block.frameClock_none (hq : quarterAt m i = false) (hh : halfAt m i = false) :
    b.frameClock cfg = b.atStep (stepAfter m i) := by
  subst hm hi
  rw [Block.frameClock, hq, hh]
  rfl

theorem Block.frameIrq_eq : b.frameIrq = irqAt m i b.a.irqEnabled := by
  subst hm hi
  rfl

end

/-- Settles O30: row by row of the tables of R111 and R112. -/
theorem frameClockFollowsItsStepTables : Obligations.FrameClockFollowsItsStepTables := by
  intro cfg b
  refine ⟨fun hm => ⟨fun hi => ?_, fun hi => ?_, fun hi => ?_, fun hi => ?_⟩, fun hm => ⟨?_, fun hi => ?_, fun hi => ?_,
    fun hi => ?_, fun hi => ?_, fun hi => ?_⟩⟩
  · exact ⟨Block.frameClock_quarter cfg hm hi rfl rfl, Block.frameIrq_eq hm hi⟩
  · exact ⟨Block.frameClock_half cfg hm hi rfl rfl, Block.frameIrq_eq hm hi⟩
  · exact ⟨Block.frameClock_quarter cfg hm hi rfl rfl, Block.frameIrq_eq hm hi⟩
  · exact ⟨Block.frameClock_half cfg hm hi rfl rfl, Block.frameIrq_eq hm hi⟩
  · exact Block.frameIrq_eq hm rfl
  · exact Block.frameClock_half cfg hm hi rfl rfl
  · exact Block.frameClock_quarter cfg hm hi rfl rfl
  · exact Block.frameClock_half cfg hm hi rfl rfl
  · exact Block.frameClock_quarter cfg hm hi rfl rfl
  · exact Block.frameClock_none cfg hm hi rfl rfl

/-- An advance leads from an index of at most 3 in 4-step mode to such an index (40_coordinator.md R115). -/
theorem Coordinator.advanced_frameStep_le {cfg : Config} {a : Coordinator} (hm : a.frameMode = .fourStep)
    (h : a.frameStep.toNat ≤ 3) : (a.advanced cfg).frameStep.toNat ≤ 3 := by
  rw [Coordinator.advanced_frameStep]
  split_ifs
  · rw [hm, stepAfter_fourStep]
    omega
  · exact h

/-- Settles O31: the row with no clock, and what each operation does to the mode and the index. -/
theorem indexFourInFourStepModeOnlyMovesToOne : Obligations.IndexFourInFourStepModeOnlyMovesToOne := by
  refine ⟨fun cfg b hm hi => ⟨Block.frameClock_none cfg hm hi rfl rfl, Block.frameIrq_eq hm hi⟩,
    fun i s t ht hframe h => ?_, fun v s t ht h => ?_⟩
  · obtain rfl := (exec_next_iff i s t).1 ht
    cases i with
    | adv =>
      rw [State.after_adv_blk, Block.advance_a]
      exact fun hm => Coordinator.advanced_frameStep_le hm (h hm)
    | wrFrameCtrl v => exact absurd rfl (hframe v)
    | rst => exact fun _ => Nat.zero_le 3
    | _ => exact h
  · obtain rfl := (exec_next_iff _ s t).1 ht
    exact h

end Sys2Proof.Machine
end

section
/-! The writes of timer and frame registers (30_encoding.md R79, R80, R82, R83, R86), the two-write period (20_memory.md
R63), and which data bits matter (R76). -/

namespace Sys2Proof

/-! The exact match of an address (30_encoding.md R73), at the seven addresses of these writes. -/

@[simp] theorem decodeWrite_p1Tlo (v : Byte) : decodeWrite 0x4002#16 v = .wrP1Tlo v := rfl
@[simp] theorem decodeWrite_p1Thi (v : Byte) : decodeWrite 0x4003#16 v = .wrP1Thi v := rfl
@[simp] theorem decodeWrite_p2Tlo (v : Byte) : decodeWrite 0x4006#16 v = .wrP2Tlo v := rfl
@[simp] theorem decodeWrite_p2Thi (v : Byte) : decodeWrite 0x4007#16 v = .wrP2Thi v := rfl
@[simp] theorem decodeWrite_triTlo (v : Byte) : decodeWrite 0x400A#16 v = .wrTriTlo v := rfl
@[simp] theorem decodeWrite_triThi (v : Byte) : decodeWrite 0x400B#16 v = .wrTriThi v := rfl
@[simp] theorem decodeWrite_frameCtrl (v : Byte) : decodeWrite 0x4017#16 v = .wrFrameCtrl v := rfl

end Sys2Proof

namespace Sys2Proof.Machine

/-! Timer low. -/

/-- A timer-low write replaces bits 7:0 of a period of `PERIOD_W` bits and keeps the rest (30_encoding.md R79). -/
theorem periodWithLow_testBit (w x : Nat) (v : Byte) (hw : 8 ≤ w) (hx : x < 2 ^ w) (k : Nat) :
    (periodWithLow w x v).testBit k = if k < 8 then v.getLsbD k else x.testBit k := by
  have hsplit : periodWithLow w x v = 2 ^ 8 * (x / 2 ^ 8) + v.toNat := by
    rw [periodWithLow_eq w x v hw hx, Nat.mul_comm (x / 256)]
    norm_num
  rw [hsplit, Nat.testBit_two_pow_mul_add _ v.isLt]
  split_ifs with hk
  · rfl
  · rw [Nat.testBit_div_two_pow, Nat.sub_add_cancel (by omega)]

/-- Settles O15: each of the three writes replaces its channel's period by `periodWithLow`. -/
theorem timerLowWriteReplacesTheLowByteOnly : Obligations.TimerLowWriteReplacesTheLowByteOnly := by
  intro v s hw
  refine ⟨decodeWrite_p1Tlo v, decodeWrite_p2Tlo v, decodeWrite_triTlo v, fun hx => ?_, fun hx => ?_, fun hx => ?_⟩
  · exact ⟨_, exec_eq (.wrP1Tlo v) s, periodWithLow_testBit _ _ v hw hx⟩
  · exact ⟨_, exec_eq (.wrP2Tlo v) s, periodWithLow_testBit _ _ v hw hx⟩
  · exact ⟨_, exec_eq (.wrTriTlo v) s, periodWithLow_testBit _ _ v hw hx⟩

/-! Timer high. -/

/-- The timer-high byte's fields stand where `LLLL LTTT` puts them (30_encoding.md R80). -/
theorem Pulse.writeTimerHigh_eq_restarted (cfg : Config) (p : Pulse) (v : Byte) :
    p.writeTimerHigh cfg v = p.restarted cfg v := by
  rw [Pulse.writeTimerHigh, periodWithHigh_eq]
  rfl

/-- The same layout at the triangle, which restarts nothing (30_encoding.md R83). -/
theorem Triangle.writeTimerHigh_eq (cfg : Config) (t : Triangle) (v : Byte) :
    t.writeTimerHigh cfg v =
      { t with
        lengthValue := cfg.lengthTable.get (v.extractLsb' 3 5).toFin
        timerPeriod := v.toNat % 8 * 256 + t.timerPeriod % 256
        linReload := true } := by
  rw [Triangle.writeTimerHigh, periodWithHigh_eq]
  rfl

/-- A timer-high write reaches its own channel only and drives no port, for either channel (41_pulse.md R140). -/
theorem pulseTimerHighWrite_eq_withBlock (c : PulseIx) (v : Byte) (s : State) :
    pulseTimerHighWrite c v s = s.withBlock (s.blk.setPulse c ((s.blk.pulse c).restarted s.cfg v)) := by
  rw [pulseTimerHighWrite, State.settle_eq_withBlock, Pulse.writeTimerHigh_eq_restarted]

/-- Settles O16: both channels' timer-high writes are one write, taken at its channel. -/
theorem pulseTimerHighWriteRestartsTheChannel : Obligations.PulseTimerHighWriteRestartsTheChannel := by
  intro v s
  refine ⟨decodeWrite_p1Thi v, decodeWrite_p2Thi v, ?_, ?_⟩
  · rw [exec_eq, State.after, pulseTimerHighWrite_eq_withBlock, Block.setPulse_one, Block.pulse_one]
  · rw [exec_eq, State.after, pulseTimerHighWrite_eq_withBlock, Block.setPulse_two, Block.pulse_two]

/-- Settles O18: the write replaces the triangle's part of the block alone. -/
theorem triangleTimerHighWriteSetsItsFields : Obligations.TriangleTimerHighWriteSetsItsFields := by
  intro v s
  refine ⟨decodeWrite_triThi v, ?_⟩
  rw [exec_eq, State.after, State.settle_eq_withBlock, Block.setT, Triangle.writeTimerHigh_eq]

/-! A low and then a high write. -/

/-- The two writes assemble the 11-bit period, whatever stood there (20_memory.md R63). -/
theorem periodWithHigh_periodWithLow (w x : Nat) (lo hi : Byte) :
    periodWithHigh (periodWithLow w x lo) hi = hi.toNat % 8 * 256 + lo.toNat := by
  rw [periodWithHigh_eq, periodWithLow_mod]

/-- Settles O24: at each channel the high write finds the low byte in place. -/
theorem twoWritesAssembleThePeriod : Obligations.TwoWritesAssembleThePeriod := by
  intro lo hi s
  exact ⟨⟨_, execAll_eq _ s, periodWithHigh_periodWithLow _ _ lo hi⟩,
    ⟨_, execAll_eq _ s, periodWithHigh_periodWithLow _ _ lo hi⟩,
    ⟨_, execAll_eq _ s, periodWithHigh_periodWithLow _ _ lo hi⟩⟩

/-- Bits 2:0 of the high byte `SETTIMER` writes are the period's high part, the rest is the length index. -/
theorem getLsbD_setTimerHighByte (period : BitVec 11) (lenidx : BitVec 5) (k : Nat) :
    (setTimerHighByte period lenidx).getLsbD k =
      if k < 3 then (period.extractLsb' 8 3).getLsbD k else lenidx.getLsbD (k - 3) :=
  BitVec.getLsbD_append

/-- The high byte `SETTIMER` writes holds the period's bits 10:8 below the length index (30_encoding.md R89). -/
theorem thiPeriodHigh_setTimerHighByte (period : BitVec 11) (lenidx : BitVec 5) :
    thiPeriodHigh (setTimerHighByte period lenidx) = period.extractLsb' 8 3 := by
  ext k hk
  simp [thiPeriodHigh, field, getLsbD_setTimerHighByte, hk]

theorem thiLengthIndex_setTimerHighByte (period : BitVec 11) (lenidx : BitVec 5) :
    thiLengthIndex (setTimerHighByte period lenidx) = lenidx := by
  ext k hk
  simp [thiLengthIndex, field, getLsbD_setTimerHighByte, hk]

/-- The two bytes of `SETTIMER` assemble its period. -/
theorem setTimer_period (w x : Nat) (period : BitVec 11) (lenidx : BitVec 5) :
    periodWithHigh (periodWithLow w x (period.extractLsb' 0 8)) (setTimerHighByte period lenidx) = period.toNat := by
  have hbound := period.isLt
  rw [periodWithHigh_periodWithLow, ← thiPeriodHigh_toNat, thiPeriodHigh_setTimerHighByte,
    BitVec.extractLsb'_toNat, BitVec.extractLsb'_toNat, Nat.shiftRight_eq_div_pow, Nat.shiftRight_eq_div_pow]
  omega

/-- The length `SETTIMER` loads is the table's entry at its index. -/
theorem setTimer_length (cfg : Config) (period : BitVec 11) (lenidx : BitVec 5) :
    lengthFor cfg (setTimerHighByte period lenidx) = cfg.lengthTable.get lenidx.toFin := by
  rw [lengthFor, thiLengthIndex_setTimerHighByte]

/-- Settles O25: at each of the three bases. -/
theorem setTimerLeavesPeriodAndLength : Obligations.SetTimerLeavesPeriodAndLength := by
  intro period lenidx s
  exact ⟨⟨_, execAll_eq _ s, setTimer_period _ _ period lenidx, setTimer_length s.cfg period lenidx⟩,
    ⟨_, execAll_eq _ s, setTimer_period _ _ period lenidx, setTimer_length s.cfg period lenidx⟩,
    ⟨_, execAll_eq _ s, setTimer_period _ _ period lenidx, setTimer_length s.cfg period lenidx⟩⟩

/-! The frame-counter write and the bits a write ignores. -/

/-- The frame-counter byte is `MI-- ----` (30_encoding.md R86). -/
theorem Coordinator.writeFrame_eq (a : Coordinator) (v : Byte) :
    a.writeFrame v =
      { a with
        frameMode := if v.getLsbD 7 then .fiveStep else .fourStep
        irqEnabled := !v.getLsbD 6 } := rfl

/-- Settles O20: by bit 7. -/
theorem frameCounterWriteSetsModeAndInterruptEnable : Obligations.FrameCounterWriteSetsModeAndInterruptEnable := by
  intro v s
  rw [exec_eq, State.after, State.settle_eq_withBlock, Block.setA, Coordinator.writeFrame_eq]
  refine ⟨decodeWrite_frameCtrl v, fun h7 => ?_, fun h7 => ?_⟩
  · rw [h7, if_neg Bool.false_ne_true]
  · rw [h7, if_pos rfl]

/-- A bit of a byte is a bit of any field that covers it. -/
theorem getLsbD_eq_of_extractLsb'_eq {v v' : Byte} {lo n : Nat} (h : v.extractLsb' lo n = v'.extractLsb' lo n) {k : Nat}
    (hk : k < n) : v.getLsbD (lo + k) = v'.getLsbD (lo + k) := by
  have hbit := congrArg (fun x : BitVec n => x.getLsbD k) h
  simpa [hk] using hbit

theorem Coordinator.writeEnable_congr (a : Coordinator) {v v' : Byte} (h : v.extractLsb' 0 3 = v'.extractLsb' 0 3) :
    a.writeEnable v = a.writeEnable v' := by
  have h0 : v.getLsbD 0 = v'.getLsbD 0 := getLsbD_eq_of_extractLsb'_eq (k := 0) h (by decide)
  have h1 : v.getLsbD 1 = v'.getLsbD 1 := getLsbD_eq_of_extractLsb'_eq (k := 1) h (by decide)
  have h2 : v.getLsbD 2 = v'.getLsbD 2 := getLsbD_eq_of_extractLsb'_eq (k := 2) h (by decide)
  rw [Coordinator.writeEnable_eq, Coordinator.writeEnable_eq, h0, h1, h2]

theorem Coordinator.writeFrame_congr (a : Coordinator) {v v' : Byte} (h : v.extractLsb' 6 2 = v'.extractLsb' 6 2) :
    a.writeFrame v = a.writeFrame v' := by
  have h6 : v.getLsbD 6 = v'.getLsbD 6 := getLsbD_eq_of_extractLsb'_eq (k := 0) h (by decide)
  have h7 : v.getLsbD 7 = v'.getLsbD 7 := getLsbD_eq_of_extractLsb'_eq (k := 1) h (by decide)
  rw [Coordinator.writeFrame_eq, Coordinator.writeFrame_eq, h6, h7]

theorem getLsbD_ne_flip (v : Byte) {k : Nat} (hk : k < 8) : v.getLsbD k ≠ (v ^^^ (1#8 <<< k)).getLsbD k := by
  simp [hk]

/-- The mode the frame-counter write sets tells its bit `M`. -/
theorem frameMode_ite_inj : ∀ {m m' : Bool},
    (if m then FrameMode.fiveStep else .fourStep) = (if m' then FrameMode.fiveStep else .fourStep) → m = m' := by
  decide

/-- The writes whose byte the register keeps whole (30_encoding.md R77 to R83). -/
def wholeByteWrites : List (Byte → Instr) :=
  [.wrP1Ctrl, .wrP1Sweep, .wrP1Tlo, .wrP1Thi, .wrP2Ctrl, .wrP2Sweep, .wrP2Tlo, .wrP2Thi, .wrTriCtrl, .wrTriTlo,
    .wrTriThi]

/-- After reset each data bit of these writes is seen, against the byte 0. -/
theorem wholeByteWrites_reset_ne : ∀ mk ∈ wholeByteWrites, ∀ k < 8,
    (State.reset.after (mk 0#8)).blk ≠ (State.reset.after (mk (0#8 ^^^ (1#8 <<< k)))).blk := by
  decide

/-- Settles O23: the ignored bits reach no field, each flipped bit its own field, and the other writes are seen at
reset. -/
theorem onlyTheIgnoredDataBitsHaveNoEffect : Obligations.OnlyTheIgnoredDataBitsHaveNoEffect := by
  refine ⟨fun v v' s => ⟨fun h => ?_, fun h => ?_⟩, fun mk hmk k hk => ?_, fun row hrow v s => ?_⟩
  · rw [exec_eq, exec_eq, State.after, State.after, Coordinator.writeEnable_congr _ h]
  · rw [exec_eq, exec_eq, State.after, State.after, Coordinator.writeFrame_congr _ h]
  · exact ⟨_, _, _, _, exec_eq _ _, exec_eq _ _, wholeByteWrites_reset_ne mk hmk k hk⟩
  · refine ⟨_, _, exec_eq _ s, exec_eq _ s, fun heq => ?_⟩
    simp only [List.mem_cons, List.not_mem_nil, or_false] at hrow
    obtain rfl | rfl | rfl | rfl | rfl := hrow
    · exact getLsbD_ne_flip v (k := 0) (by decide) (congrArg (fun b : Block => b.a.enP1) heq)
    · exact getLsbD_ne_flip v (k := 1) (by decide) (congrArg (fun b : Block => b.a.enP2) heq)
    · exact getLsbD_ne_flip v (k := 2) (by decide) (congrArg (fun b : Block => b.a.enTri) heq)
    · exact getLsbD_ne_flip v (k := 6) (by decide) (Bool.not_inj (congrArg (fun b : Block => b.a.irqEnabled) heq))
    · exact getLsbD_ne_flip v (k := 7) (by decide) (frameMode_ite_inj (congrArg (fun b : Block => b.a.frameMode) heq))

end Sys2Proof.Machine
end

section
/-! Counting events along a run of advances (40_coordinator.md R101, R102, 60_exceptions.md R226). -/

namespace Sys2Proof.Machine

/-- What is counted in exactly the advances that cross a period of at least 1 is counted by its floors. -/
theorem countAdvances_eq_crossingsOver {cfg : Config} {p : Ratio} (hp : p.AtLeastOne) {f : State → State → Bool}
    (hf : ∀ s, s.cfg = cfg → f s (s.after .adv) = crosses s.blk.a.cycle p) (n : Nat) (s : State) (hs : s.cfg = cfg) :
    countAdvances f n s = crossingsOver p s.blk.a.cycle n := by
  induction n generalizing s with
  | zero => exact (Nat.sub_self _).symm
  | succ n ih =>
    rw [countAdvances_succ, crossingsOver_succ _ _ _ hp, hf s hs, ih (s.after .adv) (by rwa [State.after_cfg]),
      State.after_adv_blk, Block.advance_a, Coordinator.advanced_cycle]

/-- The frame clocks of a run are the crossings of the frame period. -/
theorem frameClocks_eq (n : Nat) {s : State} (hp : s.cfg.framePeriod.AtLeastOne) :
    frameClocks n s = crossingsOver s.cfg.framePeriod s.blk.a.cycle n := by
  refine countAdvances_eq_crossingsOver (cfg := s.cfg) hp (fun u hu => ?_) n s rfl
  rw [State.after_adv_blk, Block.advance_a, Bool.eq_iff_iff, bne_iff_ne, Coordinator.advanced_frameStep_ne_iff, hu,
    frameNow]

/-- The samples offered in a run are the crossings of the sample period. -/
theorem samplesOffered_eq (n : Nat) {s : State} (hp : s.cfg.samplePeriod.AtLeastOne) :
    samplesOffered n s = crossingsOver s.cfg.samplePeriod s.blk.a.cycle n :=
  countAdvances_eq_crossingsOver (cfg := s.cfg) hp (fun u hu => by rw [State.after_adv_sampleValid, hu]) n s rfl

/-- Settles O44: each event is counted by its own period. -/
theorem eventsOverARunAreCountedByFloors : Obligations.EventsOverARunAreCountedByFloors := by
  intro n s hc
  obtain ⟨hframe, hsample, -⟩ := hc
  exact ⟨frameClocks_eq n hframe, samplesOffered_eq n hsample⟩

/-- `ceil(x / d)` is at most `n` exactly where `n` times `d` reaches `x`. -/
theorem ceil_le_iff {d : Nat} (hd : 0 < d) (x n : Nat) : (x + d - 1) / d ≤ n ↔ x ≤ n * d := by
  rw [← Nat.ceilDiv_eq_add_pred_div, ceilDiv_le_iff_le_mul hd, Nat.mul_comm]

/-- Advances that last a whole period cross it. -/
theorem one_le_crossingsOver {p : Ratio} (hp : p.AtLeastOne) {n : Nat} (h : p.num ≤ n * p.den) (c : Nat) :
    1 ≤ crossingsOver p c n := by
  have hnum : 0 < p.num := Nat.lt_of_lt_of_le hp.1 hp.2
  have hfloor : c * p.den / p.num + 1 ≤ (c + n) * p.den / p.num := by
    rw [← Nat.add_div_right _ hnum, Nat.add_mul]
    exact Nat.div_le_div_right (Nat.add_le_add_left h _)
  unfold crossingsOver
  omega

/-- Settles O45: `ceil(P)` advances last a whole period. -/
theorem aFrameClockComesWithinOnePeriod : Obligations.AFrameClockComesWithinOnePeriod := by
  intro s hc
  have hp : s.cfg.framePeriod.AtLeastOne := hc.1
  rw [frameClocks_eq _ hp]
  exact one_le_crossingsOver hp ((ceil_le_iff hp.1 _ _).1 (Nat.le_refl _)) _

/-- Settles O49: the floor reaches k where the count times the denominator reaches k periods. -/
theorem crossingsFallAtTheCeilingsOfMultiples : Obligations.CrossingsFallAtTheCeilingsOfMultiples := by
  refine ⟨fun p c k hp _ => ?_, by decide, by decide⟩
  have hnum : 0 < p.num := Nat.lt_of_lt_of_le hp.1 hp.2
  have hceil : c + 1 = (k * p.num + p.den - 1) / p.den ↔ k * p.num ≤ (c + 1) * p.den ∧ ¬ k * p.num ≤ c * p.den := by
    rw [← ceil_le_iff hp.1, ← ceil_le_iff hp.1]
    omega
  have hcross := periodsPassed_succ p c hp
  unfold periodsPassed at hcross
  rw [hceil, ← Nat.le_div_iff_mul_le hnum, ← Nat.le_div_iff_mul_le hnum]
  split_ifs at hcross with h
  · simp only [h, true_and]
    omega
  · simp only [h, Bool.false_eq_true, false_and, iff_false]
    omega

/-- The interrupt of one advance in 4-step mode, enabled: a frame clock at step 3 (60_exceptions.md R223). -/
theorem Block.advanceIrq_fourStep {cfg : Config} {b : Block} (hm : b.a.frameMode = .fourStep)
    (he : b.a.irqEnabled = true) : b.advanceIrq cfg = (frameNow cfg b.a && b.a.frameStep.toNat == 3) := by
  rw [Block.advanceIrq_eq, hm, he, Bool.eq_iff_iff, Bool.and_eq_true, Bool.and_eq_true, irqAt_iff, beq_iff_eq,
    ← BitVec.toNat_inj]
  simp

theorem crosses_eq_frameNow (cfg : Config) (a : Coordinator) : crosses a.cycle cfg.framePeriod = frameNow cfg a := rfl

/-- Settles O48: one more advance moves the index and the count of crossings together, and the interrupt is the wrap of
the index. -/
theorem oneInterruptPerFourFrameClocks : Obligations.OneInterruptPerFourFrameClocks := by
  intro n s hc hm he hi
  have hp : s.cfg.framePeriod.AtLeastOne := hc.1
  induction n generalizing s with
  | zero =>
    rw [show interrupts 0 s = 0 from rfl, crossingsOver, Nat.add_zero, Nat.sub_self]
    omega
  | succ n ih =>
    have hcfg := s.after_cfg .adv
    have hblk : (s.after .adv).blk.a = s.blk.a.advanced s.cfg := s.blk.advance_a s.cfg
    have hstep := Coordinator.advanced_frameStep_le (cfg := s.cfg) hm hi
    have hrest := ih (s.after .adv) (by rwa [hcfg]) (by rw [hblk]; exact hm) (by rw [hblk]; exact he)
      (by rw [hblk]; exact hstep) (by rwa [hcfg])
    rw [hcfg, hblk, Coordinator.advanced_cycle, Coordinator.advanced_frameStep] at hrest
    rw [interrupts, countAdvances_succ, crossingsOver_succ _ _ _ hp, State.after_adv_irq,
      Block.advanceIrq_fourStep hm he, crosses_eq_frameNow, ← interrupts, hrest]
    cases frameNow s.cfg s.blk.a with
    | false => simp
    | true =>
      simp only [hm, stepAfter_fourStep, if_true, Bool.true_and, beq_iff_eq]
      split_ifs <;> omega

end Sys2Proof.Machine
end

section
/-! How long a pending request waits (70_reset_and_hazards.md R249), in frame clocks and in advances. -/

namespace Sys2Proof.Machine

/-! What one frame clock does to the pending flags. -/

theorem Block.frameClock_frameMode (cfg : Config) (b : Block) : (b.frameClock cfg).a.frameMode = b.a.frameMode := by
  unfold Block.frameClock
  split_ifs <;> rfl

theorem Block.frameClock_frameStep (cfg : Config) (b : Block) :
    (b.frameClock cfg).a.frameStep = stepAfter b.a.frameMode b.a.frameStep := by
  unfold Block.frameClock
  split_ifs <;> rfl

/-- The flag `env_start` is consumed by the quarter clocks (41_pulse.md R155). -/
theorem Block.frameClock_envStart (cfg : Config) (b : Block) (c : PulseIx) :
    ((b.frameClock cfg).pulse c).envStart =
      if quarterAt b.a.frameMode b.a.frameStep then false else (b.pulse c).envStart := by
  unfold Block.frameClock
  cases c with
  | one => split_ifs <;> simp [Block.nextStep, Block.halfClock, Block.quarterClock]
  | two => split_ifs <;> simp [Block.nextStep, Block.halfClock, Block.quarterClock]

/-- The flag `sweep_reload` is consumed by the half clocks (41_pulse.md R159). -/
theorem Block.frameClock_sweepReload (cfg : Config) (b : Block) (c : PulseIx) :
    ((b.frameClock cfg).pulse c).sweepReload =
      if halfAt b.a.frameMode b.a.frameStep then false else (b.pulse c).sweepReload := by
  unfold Block.frameClock
  cases c with
  | one => split_ifs <;> simp [Block.nextStep, Block.halfClock, Block.quarterClock]
  | two => split_ifs <;> simp [Block.nextStep, Block.halfClock, Block.quarterClock]

/-- The linear counter follows the quarter clocks (42_triangle.md R197). -/
theorem Block.frameClock_linValue (cfg : Config) (b : Block) :
    (b.frameClock cfg).t.linValue =
      if quarterAt b.a.frameMode b.a.frameStep then b.t.linClock.linValue else b.t.linValue := by
  unfold Block.frameClock
  split_ifs <;> simp [Block.nextStep, Block.halfClock, Block.quarterClock]

/-- A frame clock at index 0 to 3 serves both `env_start` and a pending linear reload. -/
theorem Block.frameClock_serves (cfg : Config) {b : Block} (h : b.a.frameStep.toNat ≤ 3) :
    (b.frameClock cfg).p1.envStart = false ∧ (b.frameClock cfg).p2.envStart = false ∧
      (b.t.linReload = true → (b.frameClock cfg).t.linValue = b.t.linPeriod) := by
  have hq : quarterAt b.a.frameMode b.a.frameStep = true := (quarterAt_iff _ _).2 h
  refine ⟨?_, ?_, fun hr => ?_⟩
  · exact (b.frameClock_envStart cfg .one).trans (if_pos hq)
  · exact (b.frameClock_envStart cfg .two).trans (if_pos hq)
  · rw [Block.frameClock_linValue, if_pos hq, Triangle.linClock_linValue, if_pos hr]

/-- A frame clock at index 4 does nothing but move to an index with a quarter clock (40_coordinator.md R112, R115). -/
theorem Block.frameClock_four (cfg : Config) {b : Block} (h : b.a.frameStep = 4#3) :
    b.frameClock cfg = b.atStep (stepAfter b.a.frameMode 4#3) ∧ (stepAfter b.a.frameMode 4#3).toNat ≤ 3 := by
  cases hm : b.a.frameMode with
  | fourStep => exact ⟨Block.frameClock_none cfg hm h rfl rfl, by decide⟩
  | fiveStep => exact ⟨Block.frameClock_none cfg hm h rfl rfl, by decide⟩

/-- One of the first `k` frame clocks from index `i` runs a half clock. -/
def halfWithin (m : FrameMode) : Nat → BitVec 3 → Bool
  | 0, _ => false
  | k + 1, i => halfAt m i || halfWithin m k (stepAfter m i)

/-- A pending sweep reload stands until the first half clock. -/
theorem Block.iterate_frameClock_sweepReload (cfg : Config) (k : Nat) (b : Block) (c : PulseIx) :
    (((Block.frameClock cfg)^[k] b).pulse c).sweepReload =
      if halfWithin b.a.frameMode k b.a.frameStep then false else (b.pulse c).sweepReload := by
  induction k generalizing b with
  | zero => rfl
  | succ k ih =>
    rw [Function.iterate_succ_apply, ih, Block.frameClock_frameMode, Block.frameClock_frameStep,
      Block.frameClock_sweepReload, halfWithin]
    cases halfAt b.a.frameMode b.a.frameStep with
    | true => simp
    | false => simp

/-- From each index of each mode, the frame clock that is the first with a half clock (70_reset_and_hazards.md R249). -/
def sweepWaits : List (FrameMode × BitVec 3 × Nat) :=
  [(.fourStep, 0, 2), (.fourStep, 1, 1), (.fourStep, 2, 2), (.fourStep, 3, 1), (.fourStep, 4, 2),
    (.fiveStep, 0, 1), (.fiveStep, 1, 2), (.fiveStep, 2, 1), (.fiveStep, 3, 3), (.fiveStep, 4, 2)]

theorem halfWithin_sweepWaits : ∀ wait ∈ sweepWaits,
    (∀ k < wait.2.2, halfWithin wait.1 k wait.2.1 = false) ∧ halfWithin wait.1 wait.2.2 wait.2.1 = true := by
  decide

/-- Settles O47: the step tables for `env_start` and `lin_reload`, the first half clock for `sweep_reload`. -/
theorem pendingRequestsWaitForTheirClocks : Obligations.PendingRequestsWaitForTheirClocks := by
  intro cfg b
  refine ⟨Block.frameClock_serves cfg, fun h4 => ?_, fun wait hwait hm hi => ?_⟩
  · obtain ⟨hclock, hnext⟩ := Block.frameClock_four cfg h4
    rw [hclock]
    exact ⟨rfl, rfl, rfl, Block.frameClock_serves cfg (b := b.atStep _) hnext⟩
  · obtain ⟨hbefore, hat⟩ := halfWithin_sweepWaits wait hwait
    have hwithin (k : Nat) (c : PulseIx) := Block.iterate_frameClock_sweepReload cfg k b c
    rw [hm, hi] at hwithin
    refine ⟨fun k hk => ⟨?_, ?_⟩, ?_, ?_⟩
    · exact (hwithin k .one).trans (if_neg (by simp [hbefore k hk]))
    · exact (hwithin k .two).trans (if_neg (by simp [hbefore k hk]))
    · exact (hwithin wait.2.2 .one).trans (if_pos hat)
    · exact (hwithin wait.2.2 .two).trans (if_pos hat)

/-! The same wait in advances. -/

/-- No start is pending, nor a linear reload that a clock would clear. -/
def Block.Served (b : Block) : Prop :=
  b.p1.envStart = false ∧ b.p2.envStart = false ∧ (b.t.lengthEnabled = true → b.t.linReload = false)

/-- An advance sets no pending flag. -/
theorem Block.Served.advance {b : Block} (h : b.Served) (cfg : Config) : (b.advance cfg).Served := by
  obtain ⟨h1, h2, ht⟩ := h
  rw [Block.advance_eq]
  refine ⟨?_, ?_, fun he => ?_⟩
  · rw [Pulse.advanced_envStart, Pulse.envClock_envStart, h1, ite_self]
  · rw [Pulse.advanced_envStart, Pulse.envClock_envStart, h2, ite_self]
  · rw [Triangle.advanced_lengthEnabled] at he
    rw [Triangle.advanced_linReload, Triangle.linClock_linReload, if_pos he, ht he, ite_self]

/-- An advance with a quarter clock clears the pending flags. -/
theorem Block.served_of_quarterNow {cfg : Config} {b : Block} (h : quarterNow cfg b.a = true) :
    (b.advance cfg).Served := by
  rw [Block.advance_eq]
  refine ⟨?_, ?_, fun he => ?_⟩
  · rw [Pulse.advanced_envStart, Pulse.envClock_envStart, if_pos h]
  · rw [Pulse.advanced_envStart, Pulse.envClock_envStart, if_pos h]
  · rw [Triangle.advanced_lengthEnabled] at he
    rw [Triangle.advanced_linReload, Triangle.linClock_linReload, if_pos h, if_pos he]

/-- The operations of `ADV n` are advances (30_encoding.md R88). -/
theorem foldl_expandAdv_induction {P : State → Prop} (n : Nat) (s : State) (h0 : P s)
    (hstep : ∀ u, P u → P (u.after .adv)) : P ((expandAdv n).foldl State.after s) :=
  foldl_after_induction _ s h0 fun _ hi u hu => List.eq_of_mem_replicate hi ▸ hstep u hu

theorem foldl_expandAdv_zero (s : State) : (expandAdv 0).foldl State.after s = s := rfl

theorem foldl_expandAdv_succ (n : Nat) (s : State) :
    (expandAdv (n + 1)).foldl State.after s = (expandAdv n).foldl State.after (s.after .adv) := rfl

/-- From an index of 0 to 3 the first frame clock of a run serves what is pending, and it stays served. -/
theorem served_of_frameClocks {n : Nat} {s : State} (hi : s.blk.a.frameStep.toNat ≤ 3) (h : 1 ≤ frameClocks n s) :
    ((expandAdv n).foldl State.after s).blk.Served := by
  induction n generalizing s with
  | zero => exact absurd h (Nat.not_succ_le_zero 0)
  | succ n ih =>
    rw [foldl_expandAdv_succ]
    cases hf : frameNow s.cfg s.blk.a with
    | true =>
      have hq : quarterNow s.cfg s.blk.a = true := by
        rw [quarterNow, hf, Bool.true_and, quarterAt_iff]
        exact hi
      exact foldl_expandAdv_induction (P := fun u => u.blk.Served) n _ (Block.served_of_quarterNow hq)
        fun u hu => hu.advance u.cfg
    | false =>
      have hstay : (s.after .adv).blk.a.frameStep = s.blk.a.frameStep := by
        rw [State.after_adv_blk, Block.advance_a, Coordinator.advanced_frameStep, hf, if_neg Bool.false_ne_true]
      refine ih (by rwa [hstay]) ?_
      rw [frameClocks, countAdvances_succ, hstay, bne_self_eq_false, if_neg Bool.false_ne_true, Nat.zero_add] at h
      exact h

/-- Settles O46: the run contains a frame clock by O45, and length counting of the triangle is not touched. -/
theorem pendingStartsAreConsumedWithinOnePeriod : Obligations.PendingStartsAreConsumedWithinOnePeriod := by
  intro s hc hi
  refine ⟨_, execAll_eq _ s, ?_⟩
  obtain ⟨h1, h2, ht⟩ := served_of_frameClocks hi (aFrameClockComesWithinOnePeriod s hc)
  refine ⟨h1, h2, fun he => ht ?_⟩
  refine foldl_expandAdv_induction (P := fun u => u.blk.t.lengthEnabled = true) _ s he fun u hu => ?_
  rw [State.after_adv_blk, Block.advance_t, Triangle.advanced_lengthEnabled, hu]

end Sys2Proof.Machine
end

section
/-! Runs with a constant period (41_pulse.md R153, R157, 42_triangle.md R196, 70_reset_and_hazards.md R257): a divider
that reloads at 0, clocked any number of times. -/

namespace Sys2Proof.Machine

/-! A timer: a counter that reloads from the period at 0, where its sequencer steps. -/

/-- The counter after `m` clocks, from `q` under the period. -/
def counterAfter (period q m : Nat) : Nat := if m ≤ q then q - m else period - (m - q - 1) % (period + 1)

/-- The reloads in `m` clocks, from counter `q` under the period. -/
def reloadsAfter (period q m : Nat) : Nat := if m ≤ q then 0 else 1 + (m - q - 1) / (period + 1)

section
variable (period q : Nat)

theorem counterAfter_of_le {m : Nat} (h : m ≤ q) : counterAfter period q m = q - m := if_pos h

theorem reloadsAfter_of_le {m : Nat} (h : m ≤ q) : reloadsAfter period q m = 0 := if_pos h

theorem counterAfter_add (r : Nat) : counterAfter period q (q + 1 + r) = period - r % (period + 1) := by
  rw [counterAfter, if_neg (by omega), show q + 1 + r - q - 1 = r by omega]

theorem reloadsAfter_add (r : Nat) : reloadsAfter period q (q + 1 + r) = 1 + r / (period + 1) := by
  rw [reloadsAfter, if_neg (by omega), show q + 1 + r - q - 1 = r by omega]

/-- One more clock ends a period where the rest is the period. -/
theorem succ_div_mod_of_eq {r : Nat} (h : r % (period + 1) = period) :
    (r + 1) / (period + 1) = r / (period + 1) + 1 ∧ (r + 1) % (period + 1) = 0 := by
  have hdm := Nat.div_add_mod r (period + 1)
  rw [Nat.div_mod_unique (Nat.add_one_pos period), Nat.mul_succ]
  omega

/-- One more clock within a period moves the rest. -/
theorem succ_div_mod_of_lt {r : Nat} (h : r % (period + 1) < period) :
    (r + 1) / (period + 1) = r / (period + 1) ∧ (r + 1) % (period + 1) = r % (period + 1) + 1 := by
  have hdm := Nat.div_add_mod r (period + 1)
  rw [Nat.div_mod_unique (Nat.add_one_pos period)]
  omega

/-- One more clock: a counter at 0 reloads, any other counts down (92_eei_decisions.md D6). -/
theorem counterAfter_reloadsAfter_succ (m : Nat) :
    if counterAfter period q m = 0 then
      counterAfter period q (m + 1) = period ∧ reloadsAfter period q (m + 1) = reloadsAfter period q m + 1
    else
      counterAfter period q (m + 1) = counterAfter period q m - 1 ∧
        reloadsAfter period q (m + 1) = reloadsAfter period q m := by
  rcases Nat.lt_trichotomy m q with hlt | rfl | hgt
  · rw [counterAfter_of_le period q hlt.le, counterAfter_of_le period q hlt, reloadsAfter_of_le period q hlt.le,
      reloadsAfter_of_le period q hlt, if_neg (by omega), Nat.sub_sub]
    exact ⟨rfl, rfl⟩
  · have hfirst := counterAfter_add period m 0
    have hone := reloadsAfter_add period m 0
    rw [counterAfter_of_le period m (Nat.le_refl m), reloadsAfter_of_le period m (Nat.le_refl m), if_pos (Nat.sub_self m)]
    simpa using And.intro hfirst hone
  · obtain ⟨r, rfl⟩ := Nat.exists_eq_add_of_le (Nat.succ_le_of_lt hgt)
    rw [Nat.succ_eq_add_one, Nat.add_assoc _ r 1, counterAfter_add, counterAfter_add, reloadsAfter_add,
      reloadsAfter_add]
    have hle : r % (period + 1) ≤ period := Nat.le_of_lt_succ (Nat.mod_lt r (Nat.add_one_pos period))
    rcases Nat.lt_or_eq_of_le hle with hr | hr
    · obtain ⟨hdiv, hmod⟩ := succ_div_mod_of_lt period hr
      rw [if_neg (by omega), hdiv, hmod, Nat.sub_sub]
      exact ⟨rfl, rfl⟩
    · obtain ⟨hdiv, hmod⟩ := succ_div_mod_of_eq period hr
      rw [if_pos (by omega), hdiv, hmod]
      exact ⟨rfl, rfl⟩

end

/-- Counter `c` and sequencer step `y` are those of a timer clocked `m` times from counter `q` and step `x`. -/
def ClockedTimes {w : Nat} (period q : Nat) (x : BitVec w) (m c : Nat) (y : BitVec w) : Prop :=
  c = counterAfter period q m ∧ y = x + BitVec.ofNat w (reloadsAfter period q m)

theorem ClockedTimes.zero {w : Nat} (period q : Nat) (x : BitVec w) : ClockedTimes period q x 0 q x :=
  ⟨(counterAfter_of_le period q (Nat.zero_le q)).symm, (BitVec.add_zero x).symm⟩

section
variable {w period q m c : Nat} {x y : BitVec w} (h : ClockedTimes period q x m c y)
include h

theorem ClockedTimes.reload (hc : c = 0) : ClockedTimes period q x (m + 1) period (y + 1) := by
  obtain ⟨rfl, rfl⟩ := h
  have hsucc := counterAfter_reloadsAfter_succ period q m
  rw [if_pos hc] at hsucc
  refine ⟨hsucc.1.symm, ?_⟩
  rw [hsucc.2, BitVec.ofNat_add, BitVec.add_assoc]
  rfl

theorem ClockedTimes.count (hc : c ≠ 0) : ClockedTimes period q x (m + 1) (c - 1) y := by
  obtain ⟨rfl, rfl⟩ := h
  have hsucc := counterAfter_reloadsAfter_succ period q m
  rw [if_neg hc] at hsucc
  exact ⟨hsucc.1.symm, by rw [hsucc.2]⟩

/-- Up to the first reload the timer only counts down. -/
theorem ClockedTimes.before_reload (hm : m ≤ q) : c = q - m ∧ y = x := by
  obtain ⟨rfl, rfl⟩ := h
  rw [counterAfter_of_le period q hm, reloadsAfter_of_le period q hm]
  exact ⟨rfl, BitVec.add_zero x⟩

/-- From the first reload on the sequencer steps once in every period + 1 clocks. -/
theorem ClockedTimes.from_reload {r : Nat} (hm : m = q + 1 + r) :
    c = period - r % (period + 1) ∧ y.toNat = (x.toNat + 1 + r / (period + 1)) % 2 ^ w := by
  obtain ⟨rfl, rfl⟩ := h
  rw [hm, counterAfter_add, reloadsAfter_add, BitVec.toNat_add, BitVec.toNat_ofNat, Nat.add_mod_mod, Nat.add_assoc]
  exact ⟨rfl, rfl⟩

end

/-- The run of `ADV (n + 1)` is the run of `ADV n` and one more advance. -/
theorem foldl_expandAdv_succ_last (n : Nat) (s : State) :
    (expandAdv (n + 1)).foldl State.after s = ((expandAdv n).foldl State.after s).after .adv := by
  rw [expandAdv, expandAdv, List.replicate_succ', List.foldl_append, List.foldl_cons, List.foldl_nil]

/-! The pulse timer. -/

/-- Pulse `p` is `p₀` after `m` timer clocks, in its timer's part, with the period constant and the sweep disabled. -/
def Pulse.TimedFrom (p₀ : Pulse) (m : Nat) (p : Pulse) : Prop :=
  p.sweepEnabled = false ∧ p.timerPeriod = p₀.timerPeriod ∧
    ClockedTimes p₀.timerPeriod p₀.timerCounter p₀.dutyStep m p.timerCounter p.dutyStep

theorem Pulse.TimedFrom.timerClock {p₀ p : Pulse} {m : Nat} (h : p₀.TimedFrom m p) :
    p₀.TimedFrom (m + 1) p.timerClock := by
  obtain ⟨hs, hp, hrun⟩ := h
  refine ⟨by rw [Pulse.timerClock_sweepEnabled, hs], by rw [Pulse.timerClock_timerPeriod, hp], ?_⟩
  rw [Pulse.timerClock_timerCounter, Pulse.timerClock_dutyStep, hp]
  split_ifs with h0
  · exact hrun.reload h0
  · exact hrun.count h0

theorem Pulse.timed_sweepEnabled (a : Coordinator) (p : Pulse) : (p.timed a).sweepEnabled = p.sweepEnabled := by
  unfold Pulse.timed
  split_ifs
  · exact p.timerClock_sweepEnabled
  · rfl

theorem Pulse.timed_timerPeriod (a : Coordinator) (p : Pulse) : (p.timed a).timerPeriod = p.timerPeriod := by
  unfold Pulse.timed
  split_ifs
  · exact p.timerClock_timerPeriod
  · rfl

/-- With the sweep disabled an advance keeps the period (41_pulse.md R159). -/
theorem Pulse.advanced_timerPeriod_of_disabled (cfg : Config) (a : Coordinator) {p : Pulse}
    (h : p.sweepEnabled = false) : (p.advanced cfg a).timerPeriod = p.timerPeriod := by
  rw [Pulse.advanced_timerPeriod, Pulse.sweepClock_timerPeriod, if_neg (c := _ ∧ _) (by simp [h]), ite_self]

/-- An advance moves the timer of a disabled sweep by its timer part alone. -/
theorem Pulse.TimedFrom.advanced {p₀ p : Pulse} {m : Nat} {a : Coordinator} (cfg : Config)
    (h : p₀.TimedFrom m (p.timed a)) : p₀.TimedFrom m (p.advanced cfg a) := by
  obtain ⟨hs, hp, hrun⟩ := h
  rw [Pulse.timed_sweepEnabled] at hs
  rw [Pulse.timed_timerPeriod] at hp
  unfold Pulse.TimedFrom
  rw [Pulse.advanced_sweepEnabled, Pulse.advanced_timerPeriod_of_disabled cfg a hs, Pulse.advanced_timerCounter,
    Pulse.advanced_dutyStep]
  exact ⟨hs, hp, hrun⟩

/-- The pulse timer clocks in `n` advances from count `a`: one at each even count (40_coordinator.md R103). -/
def pulseClocks (a n : Nat) : Nat := (a + n + 1) / 2 - (a + 1) / 2

theorem pulseClocks_succ_of_even {a n : Nat} (h : (a + n) % 2 = 0) : pulseClocks a (n + 1) = pulseClocks a n + 1 := by
  unfold pulseClocks
  omega

theorem pulseClocks_succ_of_odd {a n : Nat} (h : (a + n) % 2 = 1) : pulseClocks a (n + 1) = pulseClocks a n := by
  unfold pulseClocks
  omega

/-- The timer of either channel along a run of advances. -/
theorem timedFrom_advances (c : PulseIx) (n : Nat) {s : State} (hs : (s.blk.pulse c).sweepEnabled = false) :
    ((expandAdv n).foldl State.after s).blk.a.cycle = s.blk.a.cycle + n ∧
      (s.blk.pulse c).TimedFrom (pulseClocks s.blk.a.cycle n)
        (((expandAdv n).foldl State.after s).blk.pulse c) := by
  induction n with
  | zero =>
    have h0 : pulseClocks s.blk.a.cycle 0 = 0 := Nat.sub_self _
    rw [h0]
    exact ⟨rfl, hs, rfl, .zero _ _ _⟩
  | succ n ih =>
    obtain ⟨hcycle, hrun⟩ := ih
    rw [foldl_expandAdv_succ_last, State.after_adv_blk, Block.advance_a, Block.advance_pulse,
      Coordinator.advanced_cycle, hcycle]
    refine ⟨rfl, Pulse.TimedFrom.advanced _ ?_⟩
    rcases Nat.mod_two_eq_zero_or_one (s.blk.a.cycle + n) with hpar | hpar
    · rw [pulseClocks_succ_of_even hpar, Pulse.timed_of_even (by rw [hcycle, hpar])]
      exact hrun.timerClock
    · rw [pulseClocks_succ_of_odd hpar, Pulse.timed_of_odd (by rw [hcycle, hpar])]
      exact hrun

/-- Settles O55: the timer's closed form after the run's pulse timer clocks. -/
theorem dutyStepAdvancesEveryTwoPeriodsPlusTwo : Obligations.DutyStepAdvancesEveryTwoPeriodsPlusTwo := by
  rintro c n m s hs rfl
  obtain ⟨-, -, hperiod, hrun⟩ := timedFrom_advances c n hs
  exact ⟨_, execAll_eq _ s, hperiod, hrun.before_reload, fun r hr => hrun.from_reload hr⟩

/-! The triangle timer. -/

/-- Triangle `t` is held, so that its two counters stay non-zero, and is `t₀` after `n` timer clocks. -/
def Triangle.HeldFrom (t₀ : Triangle) (n : Nat) (t : Triangle) : Prop :=
  (t.lengthEnabled = false ∧ t.linReload = true ∧ t.lengthValue ≠ 0#8 ∧ t.linValue ≠ 0#7 ∧ t.linPeriod ≠ 0#7) ∧
    t.timerPeriod = t₀.timerPeriod ∧ t.lengthValue = t₀.lengthValue ∧
    ClockedTimes t₀.timerPeriod t₀.timerCounter t₀.step n t.timerCounter t.step

/-- A held triangle's linear counter reloads at each clock, and its length value stands (42_triangle.md R198). -/
theorem Triangle.HeldFrom.advanced {t₀ t : Triangle} {n : Nat} (h : t₀.HeldFrom n t) (cfg : Config)
    (a : Coordinator) : t₀.HeldFrom (n + 1) (t.advanced cfg a) := by
  obtain ⟨⟨he, hr, hl, hv, hlp⟩, hp, hlen, hrun⟩ := h
  have hlen' : (t.advanced cfg a).lengthValue = t.lengthValue := by
    rw [Triangle.advanced_lengthValue, he, show lengthDown false t.lengthValue = t.lengthValue from rfl, ite_self]
  refine ⟨⟨?_, ?_, by rwa [hlen'], ?_, ?_⟩, ?_, by rw [hlen', hlen], ?_⟩
  · rw [Triangle.advanced_lengthEnabled, he]
  · rw [Triangle.advanced_linReload, Triangle.linClock_linReload, he, hr, if_neg Bool.false_ne_true, ite_self]
  · rw [Triangle.advanced_linValue, Triangle.linClock_linValue, if_pos hr]
    split_ifs
    · exact hlp
    · exact hv
  · rwa [Triangle.advanced_linPeriod]
  · rw [Triangle.advanced_timerPeriod, hp]
  · rw [Triangle.advanced_timerCounter, Triangle.advanced_step, Triangle.timerClock_timerCounter,
      Triangle.timerClock_step, hp]
    by_cases h0 : t.timerCounter = 0
    · rw [if_pos h0, if_pos ⟨h0, hl, hv⟩]
      exact hrun.reload h0
    · rw [if_neg h0, if_neg fun hstep => h0 hstep.1]
      exact hrun.count h0

theorem heldFrom_advances (n : Nat) {s : State} (h : s.blk.t.HeldFrom 0 s.blk.t) :
    s.blk.t.HeldFrom n ((expandAdv n).foldl State.after s).blk.t := by
  induction n with
  | zero => exact h
  | succ n ih =>
    rw [foldl_expandAdv_succ_last, State.after_adv_blk, Block.advance_t]
    exact ih.advanced _ _

/-- Settles O56: the timer's closed form after the run's advances. -/
theorem heldTriangleStepsEveryPeriodPlusOne : Obligations.HeldTriangleStepsEveryPeriodPlusOne := by
  intro n s he hr hl hv hlp
  obtain ⟨⟨-, hr', -, hv', -⟩, hperiod, hlen, hrun⟩ :=
    heldFrom_advances n (s := s) ⟨⟨he, hr, hl, hv, hlp⟩, rfl, rfl, .zero _ _ _⟩
  exact ⟨_, execAll_eq _ s, hperiod, hr', hv', hlen, hrun.before_reload, fun r hr => hrun.from_reload hr⟩

/-! The envelope. -/

/-- The decay level `k` decay events after the start, with and without loop (41_pulse.md R157, R158). -/
def envLevel (loop : Bool) (k : Nat) : Nat := if loop = true then 15 - k % 16 else 15 - k

/-- Pulse `p` is `j` clocks past the `k`-th decay event of `p₀`'s envelope. -/
def Pulse.EnvelopeAt (p₀ : Pulse) (k j : Nat) (p : Pulse) : Prop :=
  (p.envStart = false ∧ p.envPeriod = p₀.envPeriod ∧ p.envLoop = p₀.envLoop) ∧
    p.envDivider.toNat = p₀.envPeriod.toNat - j ∧ p.envDecay.toNat = envLevel p₀.envLoop k

theorem Pulse.envelopeAt_start {p : Pulse} (h : p.envStart = true) : p.EnvelopeAt 0 0 p.envClock := by
  rw [p.envClock_started h]
  refine ⟨⟨rfl, rfl, rfl⟩, rfl, ?_⟩
  cases hl : p.envLoop <;> rfl

/-- Between decay events the divider counts down. -/
theorem Pulse.EnvelopeAt.count {p₀ p : Pulse} {k j : Nat} (h : p₀.EnvelopeAt k j p) (hj : j < p₀.envPeriod.toNat) :
    p₀.EnvelopeAt k (j + 1) p.envClock := by
  obtain ⟨⟨hs, hp, hl⟩, hdiv, hdec⟩ := h
  have hne : p.envDivider ≠ 0#4 := by
    rintro h0
    rw [h0, BitVec.toNat_ofNat] at hdiv
    omega
  rw [p.envClock_counting hs hne]
  exact ⟨⟨hs, hp, hl⟩, (toNat_sub_one_of_ne_zero hne).trans (by rw [hdiv, Nat.sub_sub]), hdec⟩

/-- A decay event takes the level down by 1, and from 0 to 15 with loop (41_pulse.md R155). -/
theorem Pulse.decayed_envLevel {p : Pulse} {k : Nat} (h : p.envDecay.toNat = envLevel p.envLoop k) :
    p.decayed.toNat = envLevel p.envLoop (k + 1) := by
  by_cases h0 : p.envDecay = 0#4
  · rw [h0, BitVec.toNat_ofNat, envLevel] at h
    rw [Pulse.decayed_of_zero h0, envLevel]
    split_ifs at h ⊢
    · rw [BitVec.toNat_ofNat]
      omega
    · rw [BitVec.toNat_ofNat]
      omega
  · have hpos : p.envDecay.toNat ≠ 0 := fun hz => h0 (BitVec.eq_of_toNat_eq hz)
    rw [Pulse.decayed_toNat h0, h]
    rw [h] at hpos
    unfold envLevel at hpos ⊢
    split_ifs at hpos ⊢ <;> omega

/-- The clock that finds the divider at 0 is the next decay event. -/
theorem Pulse.EnvelopeAt.decay {p₀ p : Pulse} {k : Nat} (h : p₀.EnvelopeAt k p₀.envPeriod.toNat p) :
    p₀.EnvelopeAt (k + 1) 0 p.envClock := by
  obtain ⟨⟨hs, hp, hl⟩, hdiv, hdec⟩ := h
  have hzero : p.envDivider = 0#4 := BitVec.eq_of_toNat_eq (by rw [hdiv, Nat.sub_self]; rfl)
  rw [p.envClock_decaying hs hzero]
  exact ⟨⟨hs, hp, hl⟩, congrArg BitVec.toNat hp, hl ▸ Pulse.decayed_envLevel (hl ▸ hdec)⟩

/-- The clocks of one interval between decay events. -/
theorem Pulse.EnvelopeAt.iterate_count {p₀ p : Pulse} {k : Nat} (h : p₀.EnvelopeAt k 0 p) {j : Nat}
    (hj : j ≤ p₀.envPeriod.toNat) : p₀.EnvelopeAt k j (Pulse.envClock^[j] p) := by
  induction j with
  | zero => exact h
  | succ j ih =>
    rw [Function.iterate_succ_apply']
    exact (ih (by omega)).count hj

/-- `k` whole intervals. -/
theorem Pulse.EnvelopeAt.iterate_decay {p₀ p : Pulse} (h : p₀.EnvelopeAt 0 0 p) (k : Nat) :
    p₀.EnvelopeAt k 0 (Pulse.envClock^[k * (p₀.envPeriod.toNat + 1)] p) := by
  induction k with
  | zero => rwa [Nat.zero_mul]
  | succ k ih =>
    rw [Nat.succ_mul, Nat.add_comm (k * _), Function.iterate_add_apply, Function.iterate_succ_apply']
    exact (ih.iterate_count (Nat.le_refl _)).decay

/-- Settles O57: the start, `k` whole intervals and `j` clocks of the next. -/
theorem envelopeDecaysOnceEveryPeriodPlusOneClocks : Obligations.EnvelopeDecaysOnceEveryPeriodPlusOneClocks := by
  intro p k j hs hj
  have hrun := ((Pulse.envelopeAt_start hs).iterate_decay k).iterate_count hj
  rw [← Function.iterate_succ_apply, ← Function.iterate_add_apply] at hrun
  obtain ⟨-, hdiv, hdec⟩ := hrun
  rw [show 1 + k * (p.envPeriod.toNat + 1) + j = j + (k * (p.envPeriod.toNat + 1)).succ by omega]
  exact ⟨hdiv, hdec⟩

/-! The length counter. -/

theorem iterate_lengthDown_toNat (n : Nat) (v : BitVec 8) : ((lengthDown true)^[n] v).toNat = v.toNat - n := by
  induction n with
  | zero => rfl
  | succ n ih => rw [Function.iterate_succ_apply', lengthDown_toNat, if_pos rfl, ih, Nat.sub_sub]

/-- Where length counting is disabled the decrement does nothing. -/
theorem iterate_lengthDown_disabled (n : Nat) (v : BitVec 8) : (lengthDown false)^[n] v = v :=
  Function.iterate_fixed rfl n

/-- Length clocks act on the length value alone (41_pulse.md R166). -/
theorem Pulse.iterate_lengthClock (n : Nat) (p : Pulse) :
    Pulse.lengthClock^[n] p = { p with lengthValue := (lengthDown p.lengthEnabled)^[n] p.lengthValue } := by
  induction n with
  | zero => rfl
  | succ n ih =>
    rw [Function.iterate_succ_apply', Function.iterate_succ_apply', ih]
    rfl

/-- Length clocks act on the length value alone (42_triangle.md R199). -/
theorem Triangle.iterate_lengthClock (n : Nat) (t : Triangle) :
    Triangle.lengthClock^[n] t = { t with lengthValue := (lengthDown t.lengthEnabled)^[n] t.lengthValue } := by
  induction n with
  | zero => rfl
  | succ n ih =>
    rw [Function.iterate_succ_apply', Function.iterate_succ_apply', ih]
    rfl

/-- Settles O58: both channels iterate the one decrement. -/
theorem lengthRunsOutAfterAsManyHalfClocks : Obligations.LengthRunsOutAfterAsManyHalfClocks := by
  intro n p t
  rw [Pulse.iterate_lengthClock, Triangle.iterate_lengthClock]
  refine ⟨fun h => ?_, fun h => ?_, fun h => ?_, fun h => ?_⟩
  · rw [h]
    exact iterate_lengthDown_toNat n _
  · rw [h, iterate_lengthDown_disabled, ← h]
  · rw [h]
    exact iterate_lengthDown_toNat n _
  · rw [h, iterate_lengthDown_disabled, ← h]

end Sys2Proof.Machine
end
